-- ==== Sys2Proof/Word.lean ====
section
/-! DEFINITION. Sys2Proof/Word.lean: the words of the block. The KL-318 computes on integers (00 section 5.1); only what
travels on a line as bits, and the sets of change sources, are bit vectors. -/

namespace Sys2Proof

/-- One byte of the cab line or of the weigh link. -/
abbrev Byte := BitVec 8

/-- A set of the 16 change sources, bit k the k-th source listed in section 9.8 (R181, R187). -/
abbrev SourceSet := BitVec 16

end Sys2Proof
end

