-- ==== Sys2Proof/Syntax.lean ====
section
/-! DEFINITION. Sys2Proof/Syntax.lean: the commands of the block, one constructor for each row of spec/opcode_table.json
(the table of operations and events, 95). Every constructor begins with `dt`, the ms that have passed since the command
before it (log entry 1); the other operands are what the event meets outside the part. A request row has no operand of
its own: its fields stand in the payload of the inbound frame it takes (R180, log entry 3). -/

namespace Sys2Proof

/-- The six valve sections, numbered 0..5 in this order (00 section 5.4, chapter 7). -/
inductive ValveSection
  | slew | mainBoom | outer | tele | rotate | grapple
deriving DecidableEq, Repr

/-- The section number of the Section config request and of the section records. -/
def ValveSection.index : ValveSection → Fin 6
  | .slew => 0
  | .mainBoom => 1
  | .outer => 2
  | .tele => 3
  | .rotate => 4
  | .grapple => 5

/-- The complete 11-byte identity record as it arrives on the weigh link (R24). -/
structure IdentityAnswer where
  serial : BitVec 32
  rating : BitVec 16
  zero : BitVec 16
  scale : BitVec 16
  check : Byte
deriving DecidableEq, Repr

/-- The complete 6-byte sample record as it arrives on the weigh link (R27). -/
structure SampleAnswer where
  count : BitVec 16
  swing : BitVec 16
  status : Byte
  check : Byte
deriving DecidableEq, Repr

/-- The commands. -/
inductive Instr
  /-- SCAN (R1): the nine raw counts, in channel order. -/
  | scan (dt : Nat) (raw : Vector Nat 9)
  /-- DETECT_LINE_CHANGE (R20): the new level of the detect line, true for a head present. -/
  | detectLineChange (dt : Nat) (level : Bool)
  /-- DEBOUNCE_EXPIRY (R20). -/
  | debounceExpiry (dt : Nat)
  /-- POWER_OFF_TIME_EXPIRY (R23). -/
  | powerOffTimeExpiry (dt : Nat)
  /-- LINK_SETTLE_EXPIRY (R23). -/
  | linkSettleExpiry (dt : Nat)
  /-- IDENTITY_READ_END (R25): the complete answer, or none when the 3 ms expired without one. -/
  | identityReadEnd (dt : Nat) (answer : Option IdentityAnswer)
  /-- IDENTITY_RETRY (R25). -/
  | identityRetry (dt : Nat)
  /-- POLL (R29). -/
  | poll (dt : Nat)
  /-- POLL_COMPLETION (R28): the complete answer, or none when the 3 ms expired without one. -/
  | pollCompletion (dt : Nat) (answer : Option SampleAnswer)
  /-- RECOVERY_LINE_READ (R33): the levels of the released clock and data lines, true for high. -/
  | recoveryLineRead (dt : Nat) (clock data : Bool)
  /-- CLOCK_PULSE_END (R33): the level of the data line, true for high. -/
  | clockPulseEnd (dt : Nat) (data : Bool)
  /-- DRIVE (R135). -/
  | drive (dt : Nat)
  /-- DEMAND_EXPIRY (R136): the section whose demand expires. -/
  | demandExpiry (dt : Nat) (sec : ValveSection)
  /-- SUSPEND_TIMER_EXPIRY (R55). -/
  | suspendTimerExpiry (dt : Nat)
  /-- DRIVE_PERIOD (R139): the mean coil current, mA, of each section over the period just ended (R159). -/
  | drivePeriod (dt : Nat) (currents : Vector Nat 6)
  /-- DRIVER_TRIP (R162): the section whose driver trips. -/
  | driverTrip (dt : Nat) (sec : ValveSection)
  /-- SUPPLY_SETTLE_EXPIRY (R169). -/
  | supplySettleExpiry (dt : Nat)
  /-- IDLE_TIMER_EXPIRY (R170). -/
  | idleTimerExpiry (dt : Nat)
  /-- BYTE_RECEIVED (R177): the byte, and whether its stop bit was sampled low (R175). -/
  | byteReceived (dt : Nat) (byte : Byte) (framingError : Bool)
  /-- GAP_EXPIRY (R177). -/
  | gapExpiry (dt : Nat)
  /-- FRAME_SENT (R182). -/
  | frameSent (dt : Nat)
  /-- UNKNOWN_KIND (R180). -/
  | unknownKind (dt : Nat)
  /-- STATUS (R185). -/
  | status (dt : Nat)
  /-- READ_CHANGES (R188). -/
  | readChanges (dt : Nat)
  /-- CLEAR_CHANGES (R189). -/
  | clearChanges (dt : Nat)
  /-- CHANGE_CONFIG (R187). -/
  | changeConfig (dt : Nat)
  /-- SECTION_CONFIG (R151). -/
  | sectionConfig (dt : Nat)
  /-- PROFILE_WRITE (R153). -/
  | profileWrite (dt : Nat)
  /-- RELEASE (R166). -/
  | release (dt : Nat)
  /-- FAULT_CLEAR (R164). -/
  | faultClear (dt : Nat)
  /-- ARM (R51). -/
  | arm (dt : Nat)
  /-- DISARM (R52). -/
  | disarm (dt : Nat)
  /-- CAPTURE_CONFIG (R71). -/
  | captureConfig (dt : Nat)
  /-- ASSORTMENT (R87). -/
  | assortment (dt : Nat)
  /-- READ_LIFTS (R92). -/
  | readLifts (dt : Nat)
  /-- READ_TOTALS (R93). -/
  | readTotals (dt : Nat)
  /-- UNDO_LAST (R89). -/
  | undoLast (dt : Nat)
  /-- CORRECT (R90). -/
  | correct (dt : Nat)
  /-- REASSIGN (R91). -/
  | reassign (dt : Nat)
  /-- MANUAL_LIFT (R88). -/
  | manualLift (dt : Nat)
  /-- TRIP_CLOSE (R94). -/
  | tripClose (dt : Nat)
  /-- PAYLOAD_LIMIT (R97). -/
  | payloadLimit (dt : Nat)
  /-- ZONE_WRITE (R110). -/
  | zoneWrite (dt : Nat)
  /-- ZONE_ENABLE (R111, R112). -/
  | zoneEnable (dt : Nat)
  /-- ZONE_READ (R113). -/
  | zoneRead (dt : Nat)
  /-- LIMITER_CONFIG (R131). -/
  | limiterConfig (dt : Nat)
  /-- RATED_WRITE (R132). -/
  | ratedWrite (dt : Nat)
  /-- LINK_STATUS (R43). -/
  | linkStatus (dt : Nat)
  /-- LINK_RESET (R37). -/
  | linkReset (dt : Nat)
  /-- CALIBRATE (R38). -/
  | calibrate (dt : Nat)
  /-- TARE (R39). -/
  | tare (dt : Nat)
  /-- CHANNEL_CALIBRATION (R16). -/
  | channelCalibration (dt : Nat)
  /-- GEOMETRY_CONFIG (R17). -/
  | geometryConfig (dt : Nat)
  /-- STORE_SETTINGS (R196). -/
  | storeSettings (dt : Nat)
  /-- STORE_WRITE_COMPLETION (R197): whether the check read back from the slot matches. -/
  | storeWriteCompletion (dt : Nat) (checkMatches : Bool)
  /-- RESTART_REQUEST (R199). -/
  | restartRequest (dt : Nat)
  /-- RESTART (R198): the application of the main supply while it is absent, else the restart a sent Restart reply makes. -/
  | restart (dt : Nat)
  /-- MAIN_SUPPLY_LOSS (R194, R197). -/
  | mainSupplyLoss (dt : Nat)
  /-- STANDBY_SUPPLY_LOSS (R194). -/
  | standbySupplyLoss (dt : Nat)
  /-- STANDBY_SUPPLY_RETURN (R194). -/
  | standbySupplyReturn (dt : Nat)
deriving DecidableEq, Repr

end Sys2Proof
end

