-- ==== Sys2Proof/Decode.lean ====
section
/-! DEFINITION. Sys2Proof/Decode.lean: the commands spelled by numbers. No row of spec/opcode_table.json gives bits (98: no
row with fixed bits or fields), so no number spells a command. The decoding of the cab line's frames and request payloads
(R176 to R181) stands in Machine/Frames.lean and Machine/Requests.lean. -/

namespace Sys2Proof

/-- The command a word of the table spells: none, since the table gives no row any bits. -/
def decodeTableWord (_nbits _w : Nat) : Option Instr := none

end Sys2Proof
end

