-- ==== Sys2Proof/Config.lean ====
section
/-! DEFINITION. Sys2Proof/Config.lean: what the manual leaves to the implementer. The manual fixes every value it names and
leaves no result of a command undefined, so there is no free value here; what the outside decides is an operand of the
command. One width is open. -/

namespace Sys2Proof.Config

/-- Bytes of a measured coil current in a frame: R172 states no range for it, and two bytes are what the 120-byte payload
of Status pages 3 and 4 leaves room for (DEDUCED, log entry 17). -/
abbrev measuredCurrentBytes : Nat := 2

/-- The largest measured coil current a frame can carry, mA (log entry 17). -/
abbrev measuredCurrentMax : Nat := 65535

end Sys2Proof.Config
end

