-- ==== Sys2Proof/Machine/Arith.lean ====
section
/-! DEFINITION. Sys2Proof/Machine/Arith.lean: the four roundings of 00 section 5.2, the clamp, and the small list helpers the
blocks share. Divisors are positive wherever these are used. -/

namespace Sys2Proof.Machine

/-- "Clamped to lo..hi" (00 section 5.2). -/
def clampInt (lo hi x : Int) : Int := if x < lo then lo else if hi < x then hi else x

/-- n / d floored. -/
def floorDiv (n d : Int) : Int := n / d

/-- n / d truncated toward zero. -/
def truncDiv (n d : Int) : Int := Int.tdiv n d

/-- n / d rounded half up. -/
def roundHalfUp (n d : Int) : Int := (2 * n + d) / (2 * d)

/-- n / d rounded half away from zero. -/
def roundHalfAway (n d : Int) : Int :=
  if n < 0 then -((2 * -n + d) / (2 * d)) else (2 * n + d) / (2 * d)

/-- Sign of an integer as −1, 0 or 1. -/
def signOf (x : Int) : Int := if 0 < x then 1 else if x < 0 then -1 else 0

/-- Append at the end of a ring that holds at most `cap` entries: the oldest leaves (R32, R34, R57). -/
def ringPush {α : Type} (cap : Nat) (l : List α) (x : α) : List α :=
  (l ++ [x]).drop ((l.length + 1) - cap)

/-- The smallest of a list of factors, 1 000‰ when there is none (R105, R106). -/
def minFactor (l : List Nat) : Nat := l.foldl min 1000

/-- A value in an inclusive range. -/
def inRange (lo hi x : Nat) : Bool := lo ≤ x && x ≤ hi

/-- A signed value in an inclusive range. -/
def inRangeInt (lo hi x : Int) : Bool := lo ≤ x && x ≤ hi

/-- An optional field in range, or absent. -/
def optRange (lo hi : Nat) (x : Option Nat) : Bool := x.all (inRange lo hi)

/-- An optional signed field in range, or absent. -/
def optRangeInt (lo hi : Int) (x : Option Int) : Bool := x.all (inRangeInt lo hi)

/-- ms left to an instant. -/
def timeLeft (now : Nat) (due : Option Nat) : Option Nat := due.map (· - now)

/-- Whether a timer runs and its instant has been reached (log entry 2). -/
def isDue (now : Nat) (due : Option Nat) : Bool := due.any (· ≤ now)

end Sys2Proof.Machine
end

