-- ==== Sys2Proof/Machine/Types.lean ====
section
/-! DEFINITION. Sys2Proof/Machine/Types.lean: the data of the ten blocks (00 section 3), each type named after what its
chapter calls it. Enumerations list their values in the order of the table or list that defines them, which is the order
R181 numbers them in. -/

namespace Sys2Proof.Machine

open Sys2Proof

/-! ### Sensor Scan Unit (chapter 1) -/

/-- The nine channels, numbered 0..8 in this order (section 1.1). -/
inductive Channel
  | slew | mainBoom | outer | tele | roll | pitch | artic | ppist | prod
deriving DecidableEq, Repr

/-- The channel number of section 1.1. -/
def Channel.index : Channel → Fin 9
  | .slew => 0
  | .mainBoom => 1
  | .outer => 2
  | .tele => 3
  | .roll => 4
  | .pitch => 5
  | .artic => 6
  | .ppist => 7
  | .prod => 8

/-- Channel states (section 1.3). -/
inductive ChannelState
  | good | hold | lost
deriving DecidableEq, Repr

/-- What the SSU holds for one channel (section 1.3). -/
structure ChannelUnit where
  state : ChannelState
  value : Int
  bad : Nat
  good : Nat
deriving DecidableEq, Repr

/-- A two-point calibration (section 1.2). -/
structure ChannelCal where
  rawLo : Nat
  rawHi : Nat
  valLo : Int
  valHi : Int
deriving DecidableEq, Repr

/-- The geometry dimensions P, L1, L2, mm (R10, R17). -/
structure Geometry where
  pillar : Nat
  mainLen : Nat
  outerLen : Nat
deriving DecidableEq, Repr

/-- State and value of one channel in the scan record (R15). -/
structure ChannelView where
  state : ChannelState
  value : Int
deriving DecidableEq, Repr

/-- The scan record (R15). -/
structure ScanRecord where
  channels : Vector ChannelView 9
  slew : Int
  reach : Nat
  tipValid : Bool
  artic : Int
  tilt : Int
  substituted : Bool
deriving DecidableEq, Repr

/-- The SSU's state. -/
structure Ssu where
  channels : Vector ChannelUnit 9
  record : ScanRecord
deriving DecidableEq, Repr

/-! ### Weigh Link Controller (chapter 2) -/

/-- Link states (section 2.1). -/
inductive LinkState
  | absent | powering | identifying | running | recovering | failed
deriving DecidableEq, Repr

/-- Failure causes, None while the link is not FAILED (section 2.1). DESIGN CHOICE: no table lists their values, and the
model numbers them in the order of the sentence of section 2.1, not of its table of transitions (log entry 45). -/
inductive LinkCause
  | noIdentity | stuckClock | stuckData | unstable | none
deriving DecidableEq, Repr

/-- The head identity (R24, R26). -/
structure HeadIdentity where
  serial : Nat
  rating : Nat
  zero : Nat
  scale : Nat
deriving DecidableEq, Repr

/-- The calibration record (section 2.7). -/
structure CalRecord where
  bound : Option Nat
  trim : Nat
  tare : Nat
  tareDone : Bool
deriving DecidableEq, Repr

/-- The head's status of a sample (R27). -/
inductive SampleStatus
  | ok | overload | swingFault | temp
deriving DecidableEq, Repr

/-- What a GOOD outcome carries (R31). -/
structure GoodSample where
  count : Nat
  swing : Nat
  status : SampleStatus
  force : Int
  clamped : Bool
deriving DecidableEq, Repr

/-- Poll outcomes (R28). -/
inductive PollOutcome
  | good (d : GoodSample)
  | corrupt
  | missing
deriving DecidableEq, Repr

/-- The sample record (R31). -/
structure Sample where
  poll : Nat
  outcome : PollOutcome
  forceUsable : Bool
  linkForce : Bool
deriving DecidableEq, Repr

/-- Reasons of a FAILED tare (section 2.8). DESIGN CHOICE: the item table of section 2.8 and the table of R42 list them in
two orders, and the model numbers them by the item table (log entry 45). -/
inductive TareReason
  | unsteady | link | disturbed | overRange
deriving DecidableEq, Repr

/-- Tare states, DONE with its result in kg (section 2.8). -/
inductive TareState
  | none
  | running
  | done (kg : Nat)
  | failed (reason : TareReason)
deriving DecidableEq, Repr

/-- The tare operation (section 2.8). -/
structure Tare where
  state : TareState
  accepted : Nat
  rejected : Nat
  sum : Nat
deriving DecidableEq, Repr

/-- The link activity in progress, with the instant its timer runs out or the time it began. At most one is in progress:
R22, R35 and R37 abandon it whole. -/
inductive LinkActivity
  /-- Nothing on the lines, no timer. -/
  | none
  /-- The 20 ms off time of a Link reset (R23). -/
  | offTime (ends : Nat)
  /-- The 50 ms settle timer (R23). -/
  | settling (ends : Nat)
  /-- An identity read, begun at this time (R25). -/
  | reading (began : Nat)
  /-- The wait for the next identity read (R25). -/
  | retryWait (due : Nat)
  /-- An open poll: its number and the time it was made (R28, R29). -/
  | polling (number began : Nat)
  /-- The wait for the next poll (R29). -/
  | pollWait (due : Nat)
  /-- The released lines of a recovery, read at this time (R33 step 1). -/
  | lineRelease (due : Nat)
  /-- Clock pulse 1..9, ending at this time (R33 step 3). -/
  | pulsing (pulse due : Nat)
deriving DecidableEq, Repr

/-- What the WLC puts on the clock and data lines: it releases both (R33, R35), sends a request (R25, R27), a clock pulse of
1 ms, or the end marker, data driven low and then released while the clock is high (R33). -/
inductive LinkSignal
  | release | identityRequest | sampleRequest | clockPulse | endMarker
deriving DecidableEq, Repr

/-- The WLC's state. `sent` holds what it put on the clock and data lines in the latest event in which it used them, in the
order sent (log entry 41). -/
structure Wlc where
  state : LinkState
  cause : LinkCause
  detectLine : Bool
  detect : Bool
  debounceDue : Option Nat
  supply : Bool
  activity : LinkActivity
  sent : List LinkSignal
  identity : Option HeadIdentity
  failedReads : Nat
  failures : Nat
  history : List Nat
  nextPoll : Nat
  latest : Option Sample
  ring : List Int
  tare : Tare
deriving DecidableEq, Repr

/-! ### Weigh Capture Engine (chapter 3) -/

/-- Engine states (section 3.1). -/
inductive EngineState
  | idle | gripped | armed | collecting | suspended | held
deriving DecidableEq, Repr

/-- Bunk membership (00 section 6, R104, R108). -/
inductive BunkMembership
  | inside | outside | unknown
deriving DecidableEq, Repr

/-- Reasons of a capture that ended unweighed (section 3.7). -/
inductive EndReason
  | unsteady | stalled | disarmed | link | released
deriving DecidableEq, Repr

/-- One accepted sample in the window (R57). -/
structure WindowEntry where
  poll : Nat
  force : Int
deriving DecidableEq, Repr

/-- The figures of a weighed capture (R62 to R65). -/
structure WeighedMass where
  net : Nat
  gross : Nat
  mean : Nat
  tareUsed : Nat
deriving DecidableEq, Repr

/-- Outcome of a capture (R65). -/
inductive CaptureOutcome
  | weighed (m : WeighedMass)
  | unweighed (reason : EndReason)
deriving DecidableEq, Repr

/-- The pending lift (R65). -/
structure PendingLift where
  grip : Nat
  outcome : CaptureOutcome
  n : Nat
  spread : Option Nat
  extended : Bool
  belowTare : Bool
  accepted : Nat
  rejects : Nat
  extUsed : Nat
deriving DecidableEq, Repr

/-- The WCE's state. -/
structure Wce where
  state : EngineState
  grip : Nat
  closureRun : Option Nat
  openEdge : Bool
  preArm : Bool
  origin : Option BunkMembership
  validityRead : Bool
  remaining : Nat
  extLeft : Nat
  rejects : Nat
  accepted : Nat
  extUsed : Nat
  extended : Bool
  window : List WindowEntry
  suspendDue : Option Nat
  held : Option PendingLift
deriving DecidableEq, Repr

/-- The capture settings (section 3.9). -/
structure CaptureSettings where
  gripThreshold : Nat
  holdTime : Nat
  autoArm : Bool
  liftThreshold : Nat
  budget : Nat
  maxExtensions : Nat
  extensionSize : Nat
  rejectLimit : Nat
  swingLimit : Nat
  spreadLimit : Nat
  suspendTime : Nat
deriving DecidableEq, Repr

/-! ### Load Tally (chapter 4) -/

/-- Direction of a lift (R77). -/
inductive LiftDirection
  | load | unload
deriving DecidableEq, Repr

/-- The flags of a lift (R77). -/
structure LiftFlags where
  extended : Bool
  belowTare : Bool
  manual : Bool
  geometryUnknown : Bool
deriving DecidableEq, Repr

/-- A lift record (R77). -/
structure LiftRecord where
  number : Nat
  direction : LiftDirection
  assortment : Fin 16
  mass : Option Nat
  correction : Option Int
  flags : LiftFlags
deriving DecidableEq, Repr

/-- The totals of one assortment in one direction (R78): loads or unloads, weighed, mass, unlisted, unlisted mass. -/
structure DirTotals where
  count : Nat
  weighed : Nat
  mass : Nat
  unlisted : Nat
  unlistedMass : Nat
deriving DecidableEq, Repr

/-- One entry of the assortment table (R78). -/
structure TallyEntry where
  loads : DirTotals
  unloads : DirTotals
deriving DecidableEq, Repr

/-- The closed-trip summary (R94, R95). -/
structure ClosedTrip where
  number : Nat
  counter : Nat
  listLength : Nat
  estimate : Int
  payloadLimit : Nat
  table : Vector TallyEntry 16
deriving DecidableEq, Repr

/-- The trip record (section 4.1) with the closed-trip summary. -/
structure Trip where
  number : Nat
  counter : Nat
  assortment : Fin 16
  lastUnlisted : Bool
  estimate : Int
  lifts : List LiftRecord
  table : Vector TallyEntry 16
  closed : Option ClosedTrip
deriving DecidableEq, Repr

/-- Payload states, FULL, WARN, NORMAL, numbered in the order of the sentence of R84 that defines them. DESIGN CHOICE: R84
also has a table, which runs NORMAL, WARN, FULL, but it lists changes of the state and not its values (log entry 33). -/
inductive PayloadState
  | full | warn | normal
deriving DecidableEq, Repr

/-- The answer of a filing (R83). -/
structure FilingAnswer where
  number : Nat
  listed : Bool
  direction : LiftDirection
  assortment : Fin 16
  mass : Option Nat
  flags : LiftFlags
deriving DecidableEq, Repr

/-- Dispositions of a grip (R67, R70). DESIGN CHOICE: the tables of R67 and of R70 list them in two orders, and the model
numbers them by the table of R70 (log entry 45). -/
inductive Disposition
  | load | unload | reposition | returned
deriving DecidableEq, Repr

/-- Capture field of the Lift Filed report (R70). -/
inductive CaptureSummary
  | weighed
  | unweighed (reason : EndReason)
  | none
deriving DecidableEq, Repr

/-! ### Envelope Monitor (chapter 5) -/

/-- Zone kinds (section 5.1). -/
inductive ZoneKind
  | bunk | slow | stop
deriving DecidableEq, Repr

/-- Chassis of a zone (section 5.1). -/
inductive Chassis
  | rear | front
deriving DecidableEq, Repr

/-- One zone of the zone table (section 5.1). -/
structure Zone where
  enable : Bool
  kind : ZoneKind
  chassis : Chassis
  slewStart : Int
  slewStop : Int
  reachMin : Nat
  reachMax : Nat
  slow : Nat
  guard : Nat
deriving DecidableEq, Repr

/-- Membership of one zone (R103, R108). -/
inductive ZoneMembership
  | inZone | outZone | unknown
deriving DecidableEq, Repr

/-- The per-zone part of the evaluation record (R100). -/
structure ZoneEval where
  bounds : Option (Int × Int)
  membership : ZoneMembership
  armed : Bool
deriving DecidableEq, Repr

/-- The evaluation record (R100). -/
structure EvalRecord where
  bunk : BunkMembership
  slow : Nat
  slewA : Nat
  slewB : Nat
  intrusion : Bool
  zones : Vector ZoneEval 8
deriving DecidableEq, Repr

/-! ### Moment Limiter (chapter 6) -/

/-- Sources of the moment (R117). -/
inductive MomentSource
  | link | pressure | none
deriving DecidableEq, Repr

/-- Causes of LIMIT (section 6.6). -/
inductive LimitCause
  | moment | noGeometry | noSource | starting
deriving DecidableEq, Repr

/-- Limiter states (section 6.6). -/
inductive LimiterState
  | normal
  | warn
  | limit (cause : LimitCause)
deriving DecidableEq, Repr

/-- The figures of a scan with a moment (R130). `tip` is the tip force and its number of ring forces, in LINK. -/
structure MomentFigures where
  tip : Option (Int × Nat)
  moment : Nat
  tilt : Int
  rated : Int
  u : Nat
  warnLevel : Int
  limitLevel : Int
deriving DecidableEq, Repr

/-- The limiter record, which holds the limiter state (R130). -/
structure LimiterRecord where
  source : MomentSource
  figures : Option MomentFigures
  state : LimiterState
  factor : Nat
deriving DecidableEq, Repr

/-- The limiter settings (R131). -/
structure LimiterSettings where
  warnOn : Nat
  limitOn : Nat
  hyst : Nat
  derate : Nat
  pistonArea : Nat
  rodArea : Nat
  lever : Nat
deriving DecidableEq, Repr

/-! ### Demand Shaper (chapter 7) -/

/-- Section modes (section 7.7). -/
inductive SectionMode
  | regular | profile
deriving DecidableEq, Repr

/-- Stop modes (section 7.7). -/
inductive StopMode
  | soft | hard
deriving DecidableEq, Repr

/-- Moment classes (R142). -/
inductive MomentClass
  | raising | neutral
deriving DecidableEq, Repr

/-- Profile ranges (R146). -/
inductive ProfileRange
  | full | low | high
deriving DecidableEq, Repr

/-- Profile end modes (R146). -/
inductive EndMode
  | autostop | continuous
deriving DecidableEq, Repr

/-- A requested or active coil. -/
inductive Coil
  | a | b | none
deriving DecidableEq, Repr

/-- The thirteen settings of a section (section 7.7). -/
structure SectionSettings where
  mode : SectionMode
  upStep : Nat
  downStep : Nat
  stopMode : StopMode
  classA : MomentClass
  classB : MomentClass
  range : ProfileRange
  startIndex : Nat
  stepDivider : Nat
  endMode : EndMode
  deadTime : Nat
  iMin : Nat
  iMax : Nat
deriving DecidableEq, Repr

/-- The three common settings: ms, s and ms (section 7.7). -/
structure CommonSettings where
  expiryTime : Nat
  idleTime : Nat
  settleTime : Nat
deriving DecidableEq, Repr

/-- The section record (R150). -/
structure SectionRecord where
  held : Int
  expired : Bool
  timeToExpiry : Option Nat
  latch : Bool
  mode : SectionMode
  t0 : Int
  target : Int
  output : Int
  requested : Coil
  running : Bool
  index : Nat
  divider : Nat
deriving DecidableEq, Repr

/-- What the DSH holds for one section (chapter 7). `expiryDue` is the demand age, held as its expiry instant (log
entry 31); `disabled` says the latest Drive carried enable 0 (R149, log entry 11). -/
structure DshSection where
  held : Int
  expiryDue : Option Nat
  expired : Bool
  disabled : Bool
  latch : Bool
  t0 : Int
  target : Int
  output : Int
  requested : Coil
  running : Bool
  index : Nat
  divider : Nat
  record : SectionRecord
deriving DecidableEq, Repr

/-! ### Coil Driver and Supply Switch (chapter 8) -/

/-- Section states (section 8.1). -/
inductive SectionState
  | blocked | idle | driveA | driveB | deadtime | fault
deriving DecidableEq, Repr

/-- Causes of a coil fault (R163). -/
inductive FaultCause
  | openCoil | short
deriving DecidableEq, Repr

/-- The fault record; a measured current of none is "trip" (R163). -/
structure FaultRecord where
  cause : FaultCause
  coil : Coil
  setpoint : Nat
  measured : Option Nat
deriving DecidableEq, Repr

/-- What the CDS holds for one section (chapter 8). -/
structure CdsSection where
  state : SectionState
  output : Int
  active : Coil
  setpoint : Nat
  measured : Nat
  dead : Nat
  opens : Nat
  fault : Option FaultRecord
deriving DecidableEq, Repr

/-- Supply states (R165). -/
inductive SupplyState
  | locked | asleep | waking | active
deriving DecidableEq, Repr

/-- Lock causes (R172). -/
inductive LockCause
  | restart | halt | coilShort
deriving DecidableEq, Repr

/-- The CDS's state. `closed` is the switch position; `settleLeft` and `idleLeft` are the times left that the coil record
shows, as it was published last (R172, log entry 26). -/
structure Cds where
  sections : Vector CdsSection 6
  supply : SupplyState
  closed : Bool
  lockCause : Option LockCause
  settleDue : Option Nat
  idleDue : Option Nat
  settleLeft : Option Nat
  idleLeft : Option Nat
deriving DecidableEq, Repr

/-- The coil record (R172). -/
structure CoilRecord where
  supply : SupplyState
  closed : Bool
  lockCause : Option LockCause
  settleLeft : Option Nat
  idleLeft : Option Nat
  sections : Vector CdsSection 6
deriving DecidableEq, Repr

/-! ### Settings (chapter 10) -/

/-- Acknowledge modes (R187). -/
inductive AckMode
  | clearOnRead | explicit
deriving DecidableEq, Repr

/-- The working settings (section 10.1). -/
structure Settings where
  cal : Vector ChannelCal 9
  geometry : Geometry
  calRecord : CalRecord
  autoPower : Bool
  capture : CaptureSettings
  payloadLimit : Nat
  zones : Vector Zone 8
  limiter : LimiterSettings
  rated : Vector Nat 9
  sections : Vector SectionSettings 6
  common : CommonSettings
  profiles : Vector (Vector Nat 16) 3
  enables : SourceSet
  ackMode : AckMode
deriving DecidableEq, Repr

/-- Kinds of a restart (R198). -/
inductive RestartKind
  | warm | cold
deriving DecidableEq, Repr

/-- Store states (R196, R197). DESIGN CHOICE: no table lists them, and the model numbers them in the order a write takes
them, IDLE, WRITING, DONE, FAILED, although R196 names WRITING first (log entry 33). -/
inductive StoreState
  | idle | writing | done | failed
deriving DecidableEq, Repr

/-- A good stored slot: its image and sequence number (R195). -/
structure StoredImage where
  image : Settings
  sequence : Nat
deriving DecidableEq, Repr

/-- A write in progress (R196, R197). -/
structure StoreWrite where
  image : Settings
  sequence : Nat
  target : Fin 2
  due : Nat
deriving DecidableEq, Repr

/-- The SSR's state. A slot of none is bad: its check does not match (R195, log entry 5). -/
structure Ssr where
  retainedGood : Bool
  slots : Vector (Option StoredImage) 2
  current : Option (Fin 2)
  store : StoreState
  write : Option StoreWrite
  lastRestart : RestartKind
deriving DecidableEq, Repr

/-- The two supplies (R194). -/
structure Power where
  main : Bool
  standby : Bool
deriving DecidableEq, Repr

/-! ### Cab Link Port (chapter 9) -/

/-- The 16 change sources, bits 0..15 (section 9.8). -/
inductive ChangeSource
  | linkAttached | linkRemoved | linkFault | calMismatch | tareEnded | limiterWarn | limiterLimit | zoneIntrusion
  | payloadWarn | payloadFull | listFull | supplyLocked | coilFault | channelLost | activityTimeout | settingsDefaulted
deriving DecidableEq, Repr

/-- Result codes 0..11 (section 9.5). -/
inductive ResultCode
  | done | accepted | unknownKind | badField | busy | state | noLink | noCal | empty | unlisted | notFound | noMass
deriving DecidableEq, Repr

/-- The receiver: hunting, or in a frame with the bytes taken after the start marker and the time of the latest byte
(R177). -/
inductive Receiver
  | hunting
  | inFrame (taken : List Byte) (latest : Nat)
deriving DecidableEq, Repr

/-- A complete request frame in the inbound queue: kind byte, tag and the field bytes (R176, R179). -/
structure InFrame where
  kind : Byte
  tag : Byte
  fields : List Byte
deriving DecidableEq, Repr

/-- The five discard counts (R177). -/
structure Discards where
  length : Nat
  gap : Nat
  framing : Nat
  check : Nat
  full : Nat
deriving DecidableEq, Repr

/-- A pending restart: the kind requested, and whether its reply has been sent (R190, R199). -/
structure PendingRestart where
  kind : RestartKind
  replySent : Bool
deriving DecidableEq, Repr

/-- The Lift Filed report (R70); the filing answer is absent when nothing was filed. -/
structure LiftFiledReport where
  grip : Nat
  origin : BunkMembership
  drop : BunkMembership
  disposition : Disposition
  capture : CaptureSummary
  filed : Option FilingAnswer
deriving DecidableEq, Repr

/-- The three reports (section 9.7). -/
inductive Report
  | weighResult (lift : PendingLift)
  | liftFiled (r : LiftFiledReport)
  | change (gained : ChangeSource) (set : SourceSet)
deriving DecidableEq, Repr

/-- The capture figures of the engine snapshot, present together in COLLECTING and SUSPENDED (R73). -/
structure CaptureFigures where
  remaining : Nat
  extLeft : Nat
  rejects : Nat
  accepted : Nat
  windowCount : Nat
  extended : Bool
deriving DecidableEq, Repr

/-- The engine snapshot (R73). -/
structure EngineSnapshot where
  state : EngineState
  preArm : Bool
  autoArm : Bool
  grip : Nat
  origin : Option BunkMembership
  validityRead : Bool
  capture : Option CaptureFigures
  suspendLeft : Option Nat
  held : Option PendingLift
deriving DecidableEq, Repr

/-- The Drive reply (R184): output and state of each section, supply, limiter, u, bunk membership, engine state. -/
structure DriveReply where
  sections : Vector (Int × SectionState) 6
  supply : SupplyState
  limiter : LimiterState
  u : Option Nat
  bunk : BunkMembership
  engine : EngineState
deriving DecidableEq, Repr

/-- The Link status reply (R43). -/
structure LinkStatusReply where
  state : LinkState
  cause : LinkCause
  detect : Bool
  supply : Bool
  autoPower : Bool
  identity : Option HeadIdentity
  calRecord : CalRecord
  valid : Bool
  trimInForce : Nat
  tare : TareState
  accepted : Nat
  rejected : Nat
  failures : Nat
  historyCount : Nat
  latest : Option Sample
  ringCount : Nat
deriving DecidableEq, Repr

/-- Side of an armed STOP zone from the tip (R113). -/
inductive ZoneSide
  | above | below
deriving DecidableEq, Repr

/-- Side, distance and guard factor of an armed STOP zone (R113). -/
structure ZoneGuard where
  side : ZoneSide
  delta : Nat
  factor : Nat
deriving DecidableEq, Repr

/-- The Zone read reply (R113). -/
structure ZoneReadReply where
  zone : Zone
  bounds : Option (Int × Int)
  membership : ZoneMembership
  armed : Option Bool
  guard : Option ZoneGuard
  slew : Int
  reach : Nat
  tipValid : Bool
  bunk : BunkMembership
  slow : Nat
  slewA : Nat
  slewB : Nat
  intrusion : Bool
deriving DecidableEq, Repr

/-- Trip figures of a CURRENT Read totals (R93). -/
structure CurrentFigures where
  number : Nat
  counter : Nat
  assortment : Fin 16
  lastUnlisted : Bool
  listLength : Nat
  estimate : Int
  payloadLimit : Nat
  warnLevel : Nat
  payload : PayloadState
deriving DecidableEq, Repr

/-- Trip figures of a CLOSED Read totals (R93). -/
structure ClosedFigures where
  number : Nat
  counter : Nat
  listLength : Nat
  estimate : Int
  payloadLimit : Nat
deriving DecidableEq, Repr

/-- The trip figures of a Read totals reply (R93). -/
inductive TripFigures
  | current (f : CurrentFigures)
  | closed (f : ClosedFigures)
deriving DecidableEq, Repr

/-- Status page 0 (R185), with the times left of the coil record, which R172 has the Status reply carry whole (log entry
40). -/
structure GeneralPage where
  lastRestart : RestartKind
  supply : SupplyState
  closed : Bool
  lockCause : Option LockCause
  settleLeft : Option Nat
  idleLeft : Option Nat
  limiter : LimiterState
  u : Option Nat
  tipValid : Bool
  bunk : BunkMembership
  slow : Nat
  slewA : Nat
  slewB : Nat
  intrusion : Bool
  engine : EngineState
  link : LinkState
  cause : LinkCause
  valid : Bool
  tare : TareState
  tripNumber : Nat
  counter : Nat
  listLength : Nat
  estimate : Int
  payload : PayloadState
  store : StoreState
  changeSet : SourceSet
  enables : SourceSet
  ackMode : AckMode
  inboundCount : Nat
  outboundCount : Nat
  discards : Discards
  reportNumber : Nat
deriving DecidableEq, Repr

/-- Section record and section part of the coil record, for Status pages 3 and 4 (R185). -/
structure SectionPage where
  record : SectionRecord
  coil : CdsSection
deriving DecidableEq, Repr

/-- A page of the Status reply (R185). Page 2 carries the evaluation record without its zones. -/
inductive StatusPage
  | general (p : GeneralPage)
  | scan (r : ScanRecord)
  | limiter (r : LimiterRecord) (bunk : BunkMembership) (slow slewA slewB : Nat) (intrusion : Bool)
  | sections (s : Vector SectionPage 3)
deriving DecidableEq, Repr

/-- The fields of a reply, as its owner's rule names them. -/
inductive ReplyBody
  /-- No fields: a refused request (R180), Zone enable, Link reset, Tare, Restart. -/
  | none
  | status (p : StatusPage)
  /-- Read changes (R188); the set after clearing is carried in CLEAR_ON_READ. -/
  | changes (set enables : SourceSet) (mode : AckMode) (after : Option SourceSet)
  | changeSet (set : SourceSet)
  | changeConfig (enables : SourceSet) (mode : AckMode) (set : SourceSet)
  | drive (r : DriveReply)
  | sectionConfig (cfg : SectionSettings) (common : CommonSettings) (record : SectionRecord)
  | profile (table : Vector Nat 16)
  | release (supply : SupplyState) (cause : Option LockCause) (faults : Vector (Option FaultRecord) 6)
  | faultClear (states : Vector SectionState 6) (supply : SupplyState) (cause : Option LockCause)
  | snapshot (e : EngineSnapshot)
  | captureConfig (cfg : CaptureSettings) (e : EngineSnapshot)
  | assortment (a : Fin 16)
  | lifts (records : List LiftRecord) (more : Bool) (listLength counter : Nat)
  | totals (entries : List TallyEntry) (figures : TripFigures)
  | lift (r : LiftRecord)
  | corrected (r : LiftRecord) (oldMass newMass : Nat)
  | filed (a : FilingAnswer)
  | tripClosed (number counter listLength : Nat) (estimate : Int) (newNumber : Nat)
  | payload (limit warnLevel : Nat) (estimate : Int) (state : PayloadState)
  | zone (z : Zone)
  | zoneRead (r : ZoneReadReply)
  | limiterConfig (cfg : LimiterSettings) (r : LimiterRecord)
  | rated (entries : Vector Nat 9) (r : LimiterRecord)
  | linkStatus (r : LinkStatusReply)
  | calibrate (c : CalRecord) (valid autoPower : Bool)
  | channel (n : Fin 9) (c : ChannelCal) (v : ChannelView)
  | geometry (g : Geometry) (reach : Nat) (tipValid : Bool)
  | store (state : StoreState) (target : Fin 2) (sequence : Nat)
deriving DecidableEq, Repr

/-- A frame of the outbound queue (R180, R182, R183). -/
inductive OutFrame
  | reply (kind tag : Byte) (result : ResultCode) (body : ReplyBody)
  | report (number : Nat) (r : Report)
deriving DecidableEq, Repr

/-- The CLP's state. `line` holds the bytes of the frame sent last (log entry 27). -/
structure Clp where
  receiver : Receiver
  inbound : List InFrame
  outbound : List OutFrame
  reportNumber : Nat
  discards : Discards
  changeSet : SourceSet
  restart : Option PendingRestart
  line : List Byte
deriving DecidableEq, Repr

end Sys2Proof.Machine
end

