-- ==== Sys2Proof/Machine/Defaults.lean ====
section
/-! DEFINITION. Sys2Proof/Machine/Defaults.lean: the channel ranges, the default settings of each chapter, and the values
each block takes at a restart as functions of the settings in force after it. -/

namespace Sys2Proof.Machine

open Sys2Proof

/-! ### Default settings -/

/-- The channel ranges (section 1.1). -/
def channelRanges : Vector (Int × Int) 9 :=
  #v[(-1900, 1900), (-300, 800), (-800, 800), (0, 2400), (-350, 350), (-350, 350), (-450, 450), (0, 3500), (0, 3500)]

/-- Range minimum of a channel. -/
def channelMin (n : Fin 9) : Int := channelRanges[n].1

/-- Range maximum of a channel. -/
def channelMax (n : Fin 9) : Int := channelRanges[n].2

/-- Default calibration: the whole good band on the whole range (R18). -/
def defaultCal (n : Fin 9) : ChannelCal :=
  { rawLo := 80, rawHi := 4015, valLo := channelMin n, valHi := channelMax n }

/-- Default geometry (R18). -/
def defaultGeometry : Geometry := { pillar := 350, mainLen := 4200, outerLen := 3100 }

/-- Default calibration record (section 2.7). -/
def defaultCalRecord : CalRecord := { bound := none, trim := 1000, tare := 0, tareDone := false }

/-- Default capture settings (R72, section 3.9). -/
def defaultCapture : CaptureSettings :=
  { gripThreshold := 200, holdTime := 300, autoArm := true, liftThreshold := 150, budget := 48, maxExtensions := 2,
    extensionSize := 16, rejectLimit := 100, swingLimit := 30, spreadLimit := 400, suspendTime := 3000 }

/-- Default zone (R114). -/
def defaultZone : Zone :=
  { enable := false, kind := .slow, chassis := .rear, slewStart := -1900, slewStop := 1900, reachMin := 0,
    reachMax := 12000, slow := 1000, guard := 0 }

/-- Default limiter settings (R133). -/
def defaultLimiter : LimiterSettings :=
  { warnOn := 850, limitOn := 1000, hyst := 30, derate := 100, pistonArea := 12272, rodArea := 8424, lever := 700 }

/-- Default rated table (R133). -/
def defaultRated : Vector Nat 9 :=
  #v[98000, 96000, 94000, 92000, 90000, 86000, 78000, 70000, 62000]

/-- Default moment classes of a section, direction A then B (R142). -/
def defaultClasses : Vector (MomentClass × MomentClass) 6 :=
  #v[(.neutral, .neutral), (.neutral, .raising), (.neutral, .raising), (.raising, .neutral), (.neutral, .neutral),
     (.neutral, .neutral)]

/-- Default settings of a section (R154, section 7.7). -/
def defaultSection (i : Fin 6) : SectionSettings :=
  { mode := .regular, upStep := 20, downStep := 40, stopMode := .soft, classA := defaultClasses[i].1,
    classB := defaultClasses[i].2, range := .full, startIndex := 0, stepDivider := 10, endMode := .autostop,
    deadTime := 2, iMin := 300, iMax := 1200 }

/-- Default common settings (R154, section 7.7). -/
def defaultCommon : CommonSettings := { expiryTime := 150, idleTime := 30, settleTime := 100 }

/-- Default profile table: 250 + 50 k (R154). -/
def defaultProfile : Vector Nat 16 := Vector.ofFn fun k => 250 + 50 * k.val

/-- The working settings set to defaults (R198 step 1, and the rules of the table of section 10.1). -/
def Settings.defaults : Settings :=
  { cal := Vector.ofFn defaultCal
    geometry := defaultGeometry
    calRecord := defaultCalRecord
    autoPower := true
    capture := defaultCapture
    payloadLimit := 12000
    zones := Vector.replicate 8 defaultZone
    limiter := defaultLimiter
    rated := defaultRated
    sections := Vector.ofFn defaultSection
    common := defaultCommon
    profiles := Vector.replicate 3 defaultProfile
    enables := BitVec.allOnes 16
    ackMode := .clearOnRead }

/-! ### Block values at a restart -/

/-- A channel after a restart (R19). -/
def restartChannel : ChannelUnit := { state := .good, value := 0, bad := 0, good := 0 }

/-- The scan record formed at a restart: every value 0, R = P + L1 + L2 clamped (R19). -/
def restartScanRecord (g : Geometry) : ScanRecord :=
  { channels := Vector.replicate 9 { state := .good, value := 0 }
    slew := 0
    reach := min 12000 (g.pillar + g.mainLen + g.outerLen)
    tipValid := true
    artic := 0
    tilt := 0
    substituted := false }

/-- The SSU after a restart (R19). -/
def restartSsu (g : Geometry) : Ssu :=
  { channels := Vector.replicate 9 restartChannel, record := restartScanRecord g }

/-- No tare operation (R44). -/
def restartTare : Tare := { state := .none, accepted := 0, rejected := 0, sum := 0 }

/-- The WLC after a restart, its two lines released (R44). The detect line is a pin and keeps its level; one that differs
from the debounced ABSENT starts the debounce timer at once (R20, R44, log entry 20). -/
def restartWlc (now : Nat) (detectLine : Bool) : Wlc :=
  { state := .absent
    cause := .none
    detectLine := detectLine
    detect := false
    debounceDue := if detectLine then some (now + 200) else none
    supply := false
    activity := .none
    sent := [.release]
    identity := none
    failedReads := 0
    failures := 0
    history := []
    nextPoll := 0
    latest := none
    ring := []
    tare := restartTare }

/-- The WCE after a restart (R74); the pre-arm flag is kept on WARM and cleared on COLD. -/
def restartWce (preArm : Bool) : Wce :=
  { state := .idle
    grip := 0
    closureRun := none
    openEdge := false
    preArm := preArm
    origin := none
    validityRead := false
    remaining := 0
    extLeft := 0
    rejects := 0
    accepted := 0
    extUsed := 0
    extended := false
    window := []
    suspendDue := none
    held := none }

/-- Totals of an empty tally. -/
def emptyTotals : DirTotals := { count := 0, weighed := 0, mass := 0, unlisted := 0, unlistedMass := 0 }

/-- An empty assortment entry. -/
def emptyEntry : TallyEntry := { loads := emptyTotals, unloads := emptyTotals }

/-- The tally emptied at a COLD restart (R99). -/
def coldTrip : Trip :=
  { number := 1
    counter := 0
    assortment := 0
    lastUnlisted := false
    estimate := 0
    lifts := []
    table := Vector.replicate 16 emptyEntry
    closed := none }

/-- The slow factor for an invalid tip: the smallest over all enabled SLOW zones (R108). -/
def worstSlow (zones : Vector Zone 8) : Nat :=
  minFactor ((zones.toList.filter fun z => z.enable && z.kind == .slow).map Zone.slow)

/-- Whether at least one STOP zone is enabled (R108). -/
def anyStopEnabled (zones : Vector Zone 8) : Bool :=
  zones.toList.any fun z => z.enable && z.kind == .stop

/-- Both slew factors for an invalid tip (R108). -/
def worstSlew (zones : Vector Zone 8) : Nat := if anyStopEnabled zones then 0 else 1000

/-- The evaluation record formed at a restart: as for an invalid tip, intrusion clear, bounds absent (R115). -/
def restartEval (zones : Vector Zone 8) : EvalRecord :=
  { bunk := .unknown
    slow := worstSlow zones
    slewA := worstSlew zones
    slewB := worstSlew zones
    intrusion := false
    zones := Vector.replicate 8 { bounds := none, membership := .unknown, armed := false } }

/-- The limiter record after a restart (R134). -/
def restartLimiter : LimiterRecord :=
  { source := .none, figures := none, state := .limit .starting, factor := 0 }

/-- The section record formed from the restart values (R155). DESIGN CHOICE: R150 speaks of the latest drive period alone,
and before the first one after a restart the model shows this record, with the mode of the setting, in replies and in the
State tests of R151 and R153 (log entry 36). -/
def restartSectionRecord (cfg : SectionSettings) : SectionRecord :=
  { held := 0
    expired := true
    timeToExpiry := none
    latch := true
    mode := cfg.mode
    t0 := 0
    target := 0
    output := 0
    requested := .none
    running := false
    index := cfg.startIndex
    divider := 0 }

/-- A section of the DSH after a restart (R155). -/
def restartDshSection (cfg : SectionSettings) : DshSection :=
  { held := 0
    expiryDue := none
    expired := true
    disabled := false
    latch := true
    t0 := 0
    target := 0
    output := 0
    requested := .none
    running := false
    index := cfg.startIndex
    divider := 0
    record := restartSectionRecord cfg }

/-- The DSH after a restart (R155). -/
def restartDsh (cfgs : Vector SectionSettings 6) : Vector DshSection 6 :=
  Vector.ofFn fun i => restartDshSection cfgs[i]

/-- A section of the CDS after a restart (R174). -/
def restartCdsSection (cfg : SectionSettings) : CdsSection :=
  { state := .blocked
    output := 0
    active := .none
    setpoint := 0
    measured := 0
    dead := cfg.deadTime
    opens := 0
    fault := none }

/-- The CDS after a restart (R174). -/
def restartCds (cfgs : Vector SectionSettings 6) : Cds :=
  { sections := Vector.ofFn fun i => restartCdsSection cfgs[i]
    supply := .locked
    closed := false
    lockCause := some .restart
    settleDue := none
    idleDue := none
    settleLeft := none
    idleLeft := none }

/-- Discard counts of 0 (R191). -/
def noDiscards : Discards := { length := 0, gap := 0, framing := 0, check := 0, full := 0 }

/-- The CLP after a restart (R191); the bytes sent before it stay sent (log entry 27). -/
def restartClp (line : List Byte) : Clp :=
  { receiver := .hunting
    inbound := []
    outbound := []
    reportNumber := 0
    discards := noDiscards
    changeSet := 0#16
    restart := none
    line := line }

end Sys2Proof.Machine
end

