-- ==== Sys2Proof/Machine/State.lean ====
section
/-! DEFINITION. Sys2Proof/Machine/State.lean: the state of the KL-318, the reasons a step could stop, and the state after
reset. -/

namespace Sys2Proof.Machine

open Sys2Proof

/-- Faults: none. The manual gives every command an effect in every state, so no command stops the model and this type has
no constructor (safe: nothing is cut off). -/
inductive Fault
deriving DecidableEq, Repr

/-- Refusals. -/
inductive Refusal
  /-- Raised by `exec` for a command that has no meaning yet, named as the table spells it. No arm raises it (safe). -/
  | notModelled (mnemonic : String)
deriving DecidableEq, Repr

/-- The state of the block: the clock (log entry 1), the supplies, the state of each of the ten blocks, the working
settings, and the queue of waiting commands. -/
structure State where
  now : Nat
  power : Power
  settings : Settings
  ssu : Ssu
  wlc : Wlc
  wce : Wce
  lt : Trip
  evm : EvalRecord
  mlm : LimiterRecord
  dsh : Vector DshSection 6
  cds : Cds
  clp : Clp
  ssr : Ssr
  pending : List Instr
deriving DecidableEq, Repr

/-- The SSR after the first COLD restart of a part with both slots bad (R195, R198, R200). -/
def resetSsr : Ssr :=
  { retainedGood := true
    slots := Vector.replicate 2 none
    current := none
    store := .idle
    write := none
    lastRestart := .cold }

/-- The CLP after that restart: SettingsDefaulted is a member, and its Change report, number 0, is queued (R198). -/
def resetClp : Clp :=
  { restartClp [] with
    outbound := [.report 0 (.change .settingsDefaulted 0x8000#16)]
    reportNumber := 1
    changeSet := 0x8000#16 }

/-- The machine right after reset: the main supply has just been applied to a part as it leaves the factory, with the
standby supply connected and no head on the link. It is the COLD restart of R198 with both slots bad (log entry 4). -/
def State.reset : State :=
  { now := 0
    power := { main := true, standby := true }
    settings := Settings.defaults
    ssu := restartSsu defaultGeometry
    wlc := restartWlc 0 false
    wce := restartWce false
    lt := coldTrip
    evm := restartEval (Vector.replicate 8 defaultZone)
    mlm := restartLimiter
    dsh := restartDsh (Vector.ofFn defaultSection)
    cds := restartCds (Vector.ofFn defaultSection)
    clp := resetClp
    ssr := resetSsr
    pending := [] }

end Sys2Proof.Machine
end

