-- ==== Sys2Proof/Machine/Ops.lean ====
section
/-! DEFINITION. Sys2Proof/Machine/Ops.lean: the named updates of State, the passing of time, and the values the manual
derives from the state of one block (its views). -/

namespace Sys2Proof.Machine

open Sys2Proof

/-! ### Named updates, one for each field of State -/

/-- Replace `now`. -/
def State.setNow (s : State) (x : Nat) : State := { s with now := x }

/-- Replace `power`. -/
def State.setPower (s : State) (x : Power) : State := { s with power := x }

/-- Replace `settings`. -/
def State.setSettings (s : State) (x : Settings) : State := { s with settings := x }

/-- Replace `ssu`. -/
def State.setSsu (s : State) (x : Ssu) : State := { s with ssu := x }

/-- Replace `wlc`. -/
def State.setWlc (s : State) (x : Wlc) : State := { s with wlc := x }

/-- Replace `wce`. -/
def State.setWce (s : State) (x : Wce) : State := { s with wce := x }

/-- Replace `lt`. -/
def State.setLt (s : State) (x : Trip) : State := { s with lt := x }

/-- Replace `evm`. -/
def State.setEvm (s : State) (x : EvalRecord) : State := { s with evm := x }

/-- Replace `mlm`. -/
def State.setMlm (s : State) (x : LimiterRecord) : State := { s with mlm := x }

/-- Replace `dsh`. -/
def State.setDsh (s : State) (x : Vector DshSection 6) : State := { s with dsh := x }

/-- Replace `cds`. -/
def State.setCds (s : State) (x : Cds) : State := { s with cds := x }

/-- Replace `clp`. -/
def State.setClp (s : State) (x : Clp) : State := { s with clp := x }

/-- Replace `ssr`. -/
def State.setSsr (s : State) (x : Ssr) : State := { s with ssr := x }

/-- Replace `pending`. -/
def State.setPending (s : State) (x : List Instr) : State := { s with pending := x }

/-! ### Time and supply -/

/-- `dt` ms pass (log entry 1). -/
def State.tick (s : State) (dt : Nat) : State := s.setNow (s.now + dt)

/-- An event of the supplied part: `dt` ms pass and, while the main supply is present, the event takes place. Without the
main supply nothing in the part acts (R194, R198, log entry 7). -/
def onSupply (dt : Nat) (s : State) (act : State → State) : Host.Outcome State Fault Refusal :=
  .next (if s.power.main then act (s.tick dt) else s.tick dt)

/-! ### Views -/

/-- The calibration record is valid: an identity is held, the bound serial equals it, tare done (R36). -/
def State.calValid (s : State) : Bool :=
  match s.wlc.identity, s.settings.calRecord.bound with
  | some h, some b => b == h.serial && s.settings.calRecord.tareDone
  | _, _ => false

/-- The trim in force: the stored trim while the record is bound to the present head, 1 000 otherwise (R30, R36). -/
def State.trimInForce (s : State) : Nat :=
  match s.wlc.identity, s.settings.calRecord.bound with
  | some h, some b => if b = h.serial then s.settings.calRecord.trim else 1000
  | _, _ => 1000

/-- Warn level of a payload limit: floor(limit × 95 / 100) (R84). -/
def warnLevelOf (limit : Nat) : Nat := limit * 95 / 100

/-- The payload state of an estimate under a limit (R84). -/
def payloadStateOf (estimate : Int) (limit : Nat) : PayloadState :=
  if (limit : Int) ≤ estimate then .full
  else if (warnLevelOf limit : Int) ≤ estimate then .warn
  else .normal

/-- The payload state published by the LT (R84). -/
def State.payload (s : State) : PayloadState := payloadStateOf s.lt.estimate s.settings.payloadLimit

/-- The write target of the next Store settings: the slot that is not current, slot 0 when none is (R195). -/
def Ssr.target (r : Ssr) : Fin 2 :=
  match r.current with
  | some 0 => 1
  | some _ => 0
  | none => 0

/-- Utilisation as the limiter record holds it (R130). -/
def LimiterRecord.u (r : LimiterRecord) : Option Nat := r.figures.map MomentFigures.u

/-- The coil that a section state drives (section 8.1). -/
def SectionState.coil : SectionState → Coil
  | .driveA => .a
  | .driveB => .b
  | .blocked | .idle | .deadtime | .fault => .none

/-- Entry 0 to 15 totals in a direction (R78). -/
def TallyEntry.dir (e : TallyEntry) : LiftDirection → DirTotals
  | .load => e.loads
  | .unload => e.unloads

/-- Replace the totals of one direction. -/
def TallyEntry.setDir (e : TallyEntry) (d : LiftDirection) (t : DirTotals) : TallyEntry :=
  match d with
  | .load => { e with loads := t }
  | .unload => { e with unloads := t }

end Sys2Proof.Machine
end

