-- ==== Sys2Proof/Machine/Flags.lean ====
section
/-! DEFINITION. Sys2Proof/Machine/Flags.lean: the change set and the raising of reports (chapter 9, sections 9.4, 9.7,
9.8). -/

namespace Sys2Proof.Machine

open Sys2Proof

/-- The bit of a source, in the order of section 9.8. -/
def ChangeSource.bit : ChangeSource → Nat
  | .linkAttached => 0
  | .linkRemoved => 1
  | .linkFault => 2
  | .calMismatch => 3
  | .tareEnded => 4
  | .limiterWarn => 5
  | .limiterLimit => 6
  | .zoneIntrusion => 7
  | .payloadWarn => 8
  | .payloadFull => 9
  | .listFull => 10
  | .supplyLocked => 11
  | .coilFault => 12
  | .channelLost => 13
  | .activityTimeout => 14
  | .settingsDefaulted => 15

/-- The set that holds one source. -/
def ChangeSource.mask (c : ChangeSource) : SourceSet := 1#16 <<< c.bit

/-- Whether a source is in a set. -/
def hasSource (set : SourceSet) (c : ChangeSource) : Bool := set.getLsbD c.bit

/-- The frame limit of the outbound queue (R182). -/
def outboundMax : Nat := 8

/-- The frame limit of the inbound queue (R179). -/
def inboundMax : Nat := 4

/-- A report is raised: it takes the report number, which then advances from 255 to 0, and is appended when the outbound
queue holds fewer than 8 frames, else dropped (R183). -/
def Clp.raise (c : Clp) (r : Report) : Clp :=
  { c with
    outbound := if c.outbound.length < outboundMax then c.outbound ++ [.report c.reportNumber r] else c.outbound
    reportNumber := (c.reportNumber + 1) % 256 }

/-- A report is raised (R183). -/
def raiseReport (r : Report) (s : State) : State := s.setClp (s.clp.raise r)

/-- A source becomes a member, and its Change report carries the set as it then stands (R186, R187). -/
def Clp.gain (c : Clp) (src : ChangeSource) : Clp :=
  let set := c.changeSet ||| src.mask
  { c with changeSet := set }.raise (.change src set)

/-- A block latches a source: when its enable is on and it is not a member, it becomes one and its Change report is
raised; otherwise nothing changes (R187). -/
def latch (src : ChangeSource) (s : State) : State :=
  if hasSource s.settings.enables src && !hasSource s.clp.changeSet src then s.setClp (s.clp.gain src) else s

/-- Latch a source when a condition holds. -/
def latchIf (b : Bool) (src : ChangeSource) (s : State) : State := if b then latch src s else s

end Sys2Proof.Machine
end

