-- ==== Sys2Proof/Machine/Tally.lean ====
section
/-! DEFINITION. Sys2Proof/Machine/Tally.lean: the Load Tally (chapter 4): totals, filing, the payload test. -/

namespace Sys2Proof.Machine

open Sys2Proof

/-- The greatest value a total of an entry holds (R78, R85). -/
def totalMax : Nat := 4294967295

/-- The greatest number of listed records (R76). -/
def listMax : Nat := 96

/-- The last lift number (R80). -/
def counterMax : Nat := 65535

/-- Effective mass of a mass with its correction: max(0, mass + correction) (R77). -/
def effectiveOf (mass : Nat) (correction : Option Int) : Nat := ((mass : Int) + correction.getD 0).toNat

/-- Effective mass of a weighed record, none of an unweighed one (R77). -/
def LiftRecord.effective (r : LiftRecord) : Option Nat := r.mass.map (effectiveOf · r.correction)

/-- What a record contributes to its mass total: its effective mass, nothing when unweighed (R77, R78). -/
def LiftRecord.contribution (r : LiftRecord) : Nat := r.effective.getD 0

/-- 1 for a weighed lift, 0 for an unweighed one. -/
def weighedCount (mass : Option Nat) : Nat := if mass.isSome then 1 else 0

/-- The totals after a lift filed listed (R81). -/
def DirTotals.addListed (t : DirTotals) (mass : Option Nat) : DirTotals :=
  { t with
    count := t.count + 1
    weighed := t.weighed + weighedCount mass
    mass := t.mass + mass.getD 0 }

/-- The totals after a lift filed unlisted (R82). -/
def DirTotals.addUnlisted (t : DirTotals) (mass : Option Nat) : DirTotals :=
  { count := t.count + 1
    weighed := t.weighed + weighedCount mass
    mass := t.mass + mass.getD 0
    unlisted := t.unlisted + 1
    unlistedMass := t.unlistedMass + mass.getD 0 }

/-- The totals after a listed record's contributions join them (R91). -/
def DirTotals.join (t : DirTotals) (r : LiftRecord) : DirTotals :=
  { t with
    count := t.count + 1
    weighed := t.weighed + weighedCount r.mass
    mass := t.mass + r.contribution }

/-- The totals after a listed record's contributions leave them (R89, R91). -/
def DirTotals.leave (t : DirTotals) (r : LiftRecord) : DirTotals :=
  { t with
    count := t.count - 1
    weighed := t.weighed - weighedCount r.mass
    mass := t.mass - r.contribution }

/-- No total has passed its greatest value (R85). -/
def DirTotals.fits (t : DirTotals) : Bool :=
  t.count ≤ totalMax && t.weighed ≤ totalMax && t.mass ≤ totalMax && t.unlisted ≤ totalMax &&
    t.unlistedMass ≤ totalMax

/-- Replace the totals of one entry in one direction. -/
def setTotals (table : Vector TallyEntry 16) (a : Fin 16) (d : LiftDirection) (t : DirTotals) : Vector TallyEntry 16 :=
  table.set a (table[a].setDir d t)

/-- Sum of load_mass minus sum of unload_mass over the table (R79). -/
def tableEstimate (table : Vector TallyEntry 16) : Int :=
  (table.toList.map fun e => (e.loads.mass : Int) - (e.unloads.mass : Int)).sum

/-- The bunk estimate is recomputed from the table (R79). -/
def Trip.recompute (t : Trip) : Trip := { t with estimate := tableEstimate t.table }

/-- The payload test after an event: the state before it against the state now, rises latched (R84). -/
def payloadTest (before : PayloadState) (s : State) : State :=
  let after := s.payload
  let s1 := latchIf (before == .normal && after != .normal) .payloadWarn s
  latchIf (before != .full && after == .full) .payloadFull s1

/-- The number a filing gives: the counter advanced, or 65 535 once it stands there (R80). -/
def Trip.nextNumber (t : Trip) : Nat := if t.counter < counterMax then t.counter + 1 else counterMax

/-- A filing is listed when the counter can advance and the list has room (R80 to R82). -/
def Trip.listsNext (t : Trip) : Bool := t.counter < counterMax && t.lifts.length < listMax

/-- The totals of the entry a filing adds to, after it. -/
def Trip.filedTotals (t : Trip) (d : LiftDirection) (a : Fin 16) (mass : Option Nat) : DirTotals :=
  let old := t.table[a].dir d
  if t.listsNext then old.addListed mass else old.addUnlisted mass

/-- The record a listed filing appends (R81). -/
def Trip.newRecord (t : Trip) (d : LiftDirection) (a : Fin 16) (mass : Option Nat) (flags : LiftFlags) : LiftRecord :=
  { number := t.nextNumber, direction := d, assortment := a, mass := mass, correction := none, flags := flags }

/-- The trip record after a filing that is not turned away (R80 to R83). -/
def Trip.filed (t : Trip) (d : LiftDirection) (a : Fin 16) (mass : Option Nat) (flags : LiftFlags) : Trip :=
  { t with
    counter := t.nextNumber
    lastUnlisted := !t.listsNext
    lifts := if t.listsNext then t.lifts ++ [t.newRecord d a mass flags] else t.lifts
    table := setTotals t.table a d (t.filedTotals d a mass) }.recompute

/-- The answer of a filing (R83). -/
def Trip.answer (t : Trip) (d : LiftDirection) (a : Fin 16) (mass : Option Nat) (flags : LiftFlags) : FilingAnswer :=
  { number := t.nextNumber, listed := t.listsNext, direction := d, assortment := a, mass := mass, flags := flags }

/-- A filing, with its answer, none when R85 turns it away. ListFull is latched at an unlisted filing, then the payload
levels are tested (R80 to R85). -/
def fileLift (d : LiftDirection) (a : Fin 16) (mass : Option Nat) (flags : LiftFlags) (s : State) :
    State × Option FilingAnswer :=
  if (s.lt.filedTotals d a mass).fits then
    let s1 := s.setLt (s.lt.filed d a mass flags)
    let s2 := latchIf (!s.lt.listsNext) .listFull s1
    (payloadTest s.payload s2, some (s.lt.answer d a mass flags))
  else (s, none)

end Sys2Proof.Machine
end

