-- ==== Sys2Proof/Machine/Capture.lean ====
section
/-! DEFINITION. Sys2Proof/Machine/Capture.lean: the Weigh Capture Engine (chapter 3): capture, demand events, release and
filing; and the ends of the tare operation (section 2.8), which a closure event can end. -/

namespace Sys2Proof.Machine

open Sys2Proof

/-! ### Weighing arithmetic shared by the capture and the tare -/

/-- Mean force of n forces of sum S, rounded half up: floor((2S + n) / (2n)) (R62; R41 with n = 32). -/
def meanForce (sum n : Nat) : Nat := (2 * sum + n) / (2 * n)

/-- Gross mass: floor((mean × 1 000 + 4 903) / 9 807) kg (R63, R41). -/
def grossMass (mean : Nat) : Nat := (mean * 1000 + 4903) / 9807

/-! ### The end of a tare operation -/

/-- The tare state changes to one of its ends and TareEnded is latched (R41, R42). -/
def endTare (st : TareState) (s : State) : State :=
  latch .tareEnded (s.setWlc { s.wlc with tare := { s.wlc.tare with state := st } })

/-- A running tare ends as FAILED with this reason; one that does not run is left (R42). -/
def failTare (reason : TareReason) (s : State) : State :=
  if s.wlc.tare.state = .running then endTare (.failed reason) s else s

/-! ### Capture end -/

/-- Sum of the forces in a window. -/
def windowSum (w : List WindowEntry) : Int := (w.map WindowEntry.force).sum

/-- Spread of a window: largest minus smallest force, absent when it is empty (R59, R65). -/
def windowSpread (w : List WindowEntry) : Option Nat :=
  match w.map WindowEntry.force with
  | [] => none
  | f :: fs => some (fs.foldl max f - fs.foldl min f).toNat

/-- The masses of a weighed capture with this window and tare (R62 to R64). -/
def weighMass (w : List WindowEntry) (tare : Nat) : WeighedMass :=
  let mean := meanForce (windowSum w).toNat w.length
  let gross := grossMass mean
  { net := gross - tare, gross := gross, mean := mean, tareUsed := tare }

/-- BelowTare of a weighed capture: the difference of R64 is negative. -/
def belowTare (w : List WindowEntry) (tare : Nat) : Bool :=
  grossMass (meanForce (windowSum w).toNat w.length) < tare

/-- The pending lift formed at a capture end (R65 step 1). -/
def pendingLift (outcome : CaptureOutcome) (below : Bool) (e : Wce) : PendingLift :=
  { grip := e.grip
    outcome := outcome
    n := e.window.length
    spread := windowSpread e.window
    extended := e.extended
    belowTare := below
    accepted := e.accepted
    rejects := e.rejects
    extUsed := e.extUsed }

/-- A capture ends: the pending lift is formed, the window emptied, the suspend timer cancelled, the engine goes to HELD,
and the Weigh Result report is raised (R65, R66). -/
def endCapture (outcome : CaptureOutcome) (below : Bool) (s : State) : State :=
  let lift := pendingLift outcome below s.wce
  raiseReport (.weighResult lift)
    (s.setWce { s.wce with window := [], suspendDue := none, state := .held, held := some lift })

/-- A capture ends unweighed (R65). -/
def endUnweighed (reason : EndReason) (s : State) : State := endCapture (.unweighed reason) false s

/-- A capture ends weighed, with the window and the tare as they stand (R62 to R65). -/
def endWeighed (s : State) : State :=
  endCapture (.weighed (weighMass s.wce.window s.settings.calRecord.tare))
    (belowTare s.wce.window s.settings.calRecord.tare) s

/-- Whether a capture runs (section 3.1). -/
def Wce.capturing (e : Wce) : Bool := e.state = .collecting || e.state = .suspended

/-- The engine takes the link's departure from RUNNING (R61). -/
def engineLinkLeft (s : State) : State := if s.wce.capturing then endUnweighed .link s else s

/-! ### Samples -/

/-- The force of a sample the capture accepts, none for any other sample (R56). -/
def acceptedForce (swingLimit : Nat) (x : Sample) : Option Int :=
  match x.outcome with
  | .good d =>
    if d.status = .ok && d.swing ≤ swingLimit && inRangeInt 0 40000 d.force && !d.clamped then some d.force else none
  | .corrupt | .missing => none

/-- The evaluation when the budget has run out (R59). -/
def evaluateWindow (s : State) : State :=
  if (windowSpread s.wce.window).getD 0 ≤ s.settings.capture.spreadLimit then endWeighed s
  else if 0 < s.wce.extLeft then
    s.setWce { s.wce with
      remaining := s.settings.capture.extensionSize
      extLeft := s.wce.extLeft - 1
      extUsed := s.wce.extUsed + 1
      extended := true }
  else endUnweighed .unsteady s

/-- An accepted sample joins the window; at a remaining budget of 0 the window is evaluated (R57, R59). -/
def acceptSample (poll : Nat) (force : Int) (s : State) : State :=
  let e := s.wce
  let s1 := s.setWce { e with
    window := ringPush 32 e.window { poll := poll, force := force }
    remaining := e.remaining - 1
    accepted := e.accepted + 1 }
  if s1.wce.remaining = 0 then evaluateWindow s1 else s1

/-- A rejected sample counts; at the reject limit the capture ends Unsteady (R58). -/
def rejectSample (s : State) : State :=
  let s1 := s.setWce { s.wce with rejects := s.wce.rejects + 1 }
  if s.settings.capture.rejectLimit ≤ s1.wce.rejects then endUnweighed .unsteady s1 else s1

/-- The engine takes a published sample while it is COLLECTING (R56 to R59). -/
def engineSample (x : Sample) (s : State) : State :=
  if s.wce.state = .collecting then
    match acceptedForce s.settings.capture.swingLimit x with
    | some f => acceptSample x.poll f s
    | none => rejectSample s
  else s

/-! ### The lift trigger -/

/-- The held demand of a section. -/
def State.heldOf (s : State) (v : ValveSection) : Int := s.dsh[v.index].held

/-- The lift trigger: MAIN A or OUTER A at or above the lift threshold (R53). -/
def State.liftTrigger (s : State) : Bool :=
  (s.settings.capture.liftThreshold : Int) ≤ s.heldOf .mainBoom ||
    (s.settings.capture.liftThreshold : Int) ≤ s.heldOf .outer

/-- A capture starts (R53). -/
def startCapture (s : State) : State :=
  s.setWce { s.wce with
    state := .collecting
    remaining := s.settings.capture.budget
    extLeft := s.settings.capture.maxExtensions
    rejects := 0
    accepted := 0
    extUsed := 0
    extended := false
    window := [] }

/-- The lift-trigger test in ARMED: with the trigger, the record is read, and the capture starts when the link is RUNNING
and the record valid (R53, log entry 10). -/
def triggerArmed (s : State) : State :=
  if s.wce.state = .armed && s.liftTrigger then
    let s1 := s.setWce { s.wce with validityRead := s.calValid }
    if s.wlc.state = .running && s.calValid then startCapture s1 else s1
  else s

/-- The lift conditions of a demand event, on the state the closure and release tests leave (R45 step 3, R53, R54). -/
def liftConditions (s : State) : State :=
  match s.wce.state with
  | .armed => triggerArmed s
  | .suspended =>
    if s.liftTrigger then s.setWce { s.wce with state := .collecting, suspendDue := none } else s
  | .collecting =>
    if s.liftTrigger then s
    else s.setWce { s.wce with state := .suspended, suspendDue := some (s.now + s.settings.capture.suspendTime) }
  | .idle | .gripped | .held => s

/-! ### Closure -/

/-- The arming condition at a closure event (R50). -/
def State.armsAtClosure (s : State) : Bool := (s.settings.capture.autoArm || s.wce.preArm) && s.calValid

/-- The grip number advanced by one, from 65 535 to 1 (R47). -/
def nextGrip (g : Nat) : Nat := if g < 65535 then g + 1 else 1

/-- A closure event: in IDLE it ends a running tare as Disturbed and opens a grip; in any other state it is ignored (R47,
R49, R50, R42). -/
def closureEvent (s : State) : State :=
  if s.wce.state = .idle then
    let s1 := failTare .disturbed s
    s1.setWce { s1.wce with
      grip := nextGrip s1.wce.grip
      origin := some s1.evm.bunk
      validityRead := s1.calValid
      state := if s1.armsAtClosure then .armed else .gripped
      preArm := false }
  else s

/-- The closure test of the GRAPPLE demand (R45 step 1, R46). -/
def closureTest (s : State) : State :=
  if (s.settings.capture.gripThreshold : Int) ≤ s.heldOf .grapple then
    match s.wce.closureRun with
    | some _ => s
    | none => s.setWce { s.wce with closureRun := some s.now }
  else
    match s.wce.closureRun with
    | none => s
    | some began =>
      let s1 := s.setWce { s.wce with closureRun := none }
      if s.settings.capture.holdTime ≤ s.now - began then closureEvent s1 else s1

/-! ### Release and filing -/

/-- UNKNOWN is treated as OUTSIDE (R67). -/
def BunkMembership.isInside (m : BunkMembership) : Bool := m = .inside

/-- The disposition of a grip (R67). -/
def dispositionOf (origin drop : BunkMembership) : Disposition :=
  match origin.isInside, drop.isInside with
  | true, true => .reposition
  | true, false => .unload
  | false, true => .load
  | false, false => .returned

/-- The direction of the lift a disposition files, none for one that files nothing (R67). -/
def Disposition.direction : Disposition → Option LiftDirection
  | .load => some .load
  | .unload => some .unload
  | .reposition | .returned => none

/-- The mass handed over: the net mass of a weighed pending lift (R68). -/
def handedMass (held : Option PendingLift) : Option Nat :=
  match held with
  | some p =>
    match p.outcome with
    | .weighed m => some m.net
    | .unweighed _ => none
  | none => none

/-- The flags handed over (R68). -/
def handedFlags (held : Option PendingLift) (origin drop : BunkMembership) : LiftFlags :=
  { extended := held.any PendingLift.extended
    belowTare := held.any PendingLift.belowTare
    manual := false
    geometryUnknown := origin = .unknown || drop = .unknown }

/-- The capture field of the Lift Filed report (R70). -/
def captureSummary (held : Option PendingLift) : CaptureSummary :=
  match held with
  | some p =>
    match p.outcome with
    | .weighed _ => .weighed
    | .unweighed r => .unweighed r
  | none => .none

/-- The origin of the open grip; a grip that is open holds one (R47). -/
def Wce.originOf (e : Wce) : BunkMembership := e.origin.getD .unknown

/-- The hand-over of a grip whose disposition files a lift, in the current assortment (R68, R86). -/
def handOver (origin drop : BunkMembership) (s : State) : State × Option FilingAnswer :=
  match (dispositionOf origin drop).direction with
  | some d => fileLift d s.lt.assortment (handedMass s.wce.held) (handedFlags s.wce.held origin drop) s
  | none => (s, none)

/-- A release event taken in GRIPPED, ARMED or HELD closes the grip: disposition, hand-over, pending lift and origin
dropped, IDLE, and the Lift Filed report (R67, R68, R70). -/
def closeGrip (s : State) : State :=
  let origin := s.wce.originOf
  let drop := s.evm.bunk
  let out := handOver origin drop s
  let s1 := out.1
  raiseReport
    (.liftFiled
      { grip := s.wce.grip
        origin := origin
        drop := drop
        disposition := dispositionOf origin drop
        capture := captureSummary s.wce.held
        filed := out.2 })
    (s1.setWce { s1.wce with held := none, origin := none, state := .idle })

/-- A release event (R48, R69). -/
def releaseEvent (s : State) : State :=
  match s.wce.state with
  | .idle => s
  | .gripped | .armed | .held => closeGrip s
  | .collecting | .suspended => closeGrip (endUnweighed .released s)

/-- The release test of the GRAPPLE demand (R45 step 2, R48). -/
def releaseTest (s : State) : State :=
  let isOpen : Bool := (s.settings.capture.gripThreshold : Int) ≤ -s.heldOf .grapple
  let s1 := s.setWce { s.wce with openEdge := isOpen }
  if isOpen && !s.wce.openEdge then releaseEvent s1 else s1

/-- A demand event, on the held demands as they stand (R45). -/
def demandEvent (s : State) : State := liftConditions (releaseTest (closureTest s))

/-! ### The engine snapshot -/

/-- The engine snapshot (R73). -/
def State.snapshot (s : State) : EngineSnapshot :=
  let e := s.wce
  { state := e.state
    preArm := e.preArm
    autoArm := s.settings.capture.autoArm
    grip := e.grip
    origin := if e.state = .idle then none else e.origin
    validityRead := e.validityRead
    capture :=
      if e.capturing then
        some { remaining := e.remaining, extLeft := e.extLeft, rejects := e.rejects, accepted := e.accepted,
               windowCount := e.window.length, extended := e.extended }
      else none
    suspendLeft := if e.state = .suspended then timeLeft s.now e.suspendDue else none
    held := if e.state = .held then e.held else none }

/-! ### The engine's own event -/

/-- SUSPEND_TIMER_EXPIRY: the capture ends unweighed with reason Stalled (R55). -/
def suspendExpired (s : State) : State :=
  if s.wce.state = .suspended && isDue s.now s.wce.suspendDue then endUnweighed .stalled s else s

/-- Meaning of SUSPEND_TIMER_EXPIRY (R55). -/
def execSuspendTimerExpiry (dt : Nat) (s : State) : Host.Outcome State Fault Refusal := onSupply dt s suspendExpired

end Sys2Proof.Machine
end

