-- ==== Sys2Proof/Machine/Shaper.lean ====
section
/-! DEFINITION. Sys2Proof/Machine/Shaper.lean: the Demand Shaper (chapter 7): shaping chain, ramp, profile, section record,
neutral latches and the expiry of demands. -/

namespace Sys2Proof.Machine

open Sys2Proof

/-! ### Shaping -/

/-- The limiter factor of the direction of a sign: the record's factor when its class is RAISING, 1 000‰ when NEUTRAL
(R141 step 2, R142). -/
def classFactor (cfg : SectionSettings) (factor : Nat) (sign : Int) : Nat :=
  if (0 < sign && cfg.classA = .raising) || (sign < 0 && cfg.classB = .raising) then factor else 1000

/-- The slew factor of the direction of a sign (R141 step 3). -/
def slewFactor (e : EvalRecord) (sign : Int) : Nat := if 0 < sign then e.slewA else e.slewB

/-- A value scaled by a factor, truncated toward zero (R141). -/
def scaleBy (t : Int) (factor : Nat) : Int := truncDiv (t * factor) 1000

/-- The target formed from an unscaled target by the four steps, in the direction of `sign` (R141). -/
def shape (i : Fin 6) (cfg : SectionSettings) (e : EvalRecord) (factor : Nat) (sign t0 : Int) : Int :=
  let t1 := scaleBy t0 e.slow
  let t2 := scaleBy t1 (classFactor cfg factor sign)
  let t3 := if i = ValveSection.slew.index then scaleBy t2 (slewFactor e sign) else t2
  if i = ValveSection.tele.index && 0 < sign && e.intrusion then 0 else t3

/-! ### Regular mode -/

/-- A magnitude shrunk by at most a step toward a smaller magnitude, with the sign of `o`. -/
def shrinkBy (step : Nat) (o : Int) (least : Nat) : Int :=
  signOf o * ((o.natAbs - min step (o.natAbs - least) : Nat) : Int)

/-- The new output of a section in regular mode, before the holds (R143, R144). -/
def ramp (cfg : SectionSettings) (o t t0 : Int) : Int :=
  if o = 0 then
    if t = 0 then 0 else signOf t * (min cfg.upStep t.natAbs : Nat)
  else if signOf t = -signOf o then shrinkBy cfg.downStep o 0
  else if signOf t = signOf o && o.natAbs ≤ t.natAbs then
    signOf o * ((o.natAbs + min cfg.upStep (t.natAbs - o.natAbs) : Nat) : Int)
  else if t ≠ t0 && cfg.stopMode = .hard then t
  else shrinkBy cfg.downStep o t.natAbs

/-! ### Profile mode -/

/-- The profile table a section uses (R146). -/
def tableOf (i : Fin 6) : Fin 3 :=
  match i with
  | 0 | 4 => 0
  | 1 | 2 => 1
  | 3 | 5 => 2

/-- Bottom of a range (R146). -/
def ProfileRange.bottom : ProfileRange → Nat
  | .full => 0
  | .low => 0
  | .high => 8

/-- Top of a range (R146). -/
def ProfileRange.top : ProfileRange → Nat
  | .full => 15
  | .low => 7
  | .high => 15

/-- Whether a section in profile mode is running at this period (R147). -/
def profileRuns (hold : Bool) (d : DshSection) : Bool :=
  100 ≤ d.held.natAbs && !d.latch && (d.output = 0 || signOf d.output = signOf d.held) && !hold

/-- The index after a running period: it advances when the divider count reaches the step divider (R148). -/
def nextIndex (cfg : SectionSettings) (index divider : Nat) : Nat :=
  if divider + 1 < cfg.stepDivider then index
  else if index < cfg.range.top then index + 1
  else if cfg.endMode = .continuous then cfg.range.bottom
  else index

/-- The divider count after a running period (R148). -/
def nextDivider (cfg : SectionSettings) (divider : Nat) : Nat :=
  if divider + 1 < cfg.stepDivider then divider + 1 else 0

/-- The fall of a profile section that is not running: by the down step after an expiry, enable 0 or a set latch, else by
the stop mode (R149). -/
def profileFall (cfg : SectionSettings) (d : DshSection) : Int :=
  if d.latch || d.expired || d.disabled then shrinkBy cfg.downStep d.output 0
  else if cfg.stopMode = .hard then 0
  else shrinkBy cfg.downStep d.output 0

/-! ### One section at a drive period -/

/-- The coil of a sign (R139 step 5). -/
def coilOfSign (x : Int) : Coil := if 0 < x then .a else if x < 0 then .b else .none

/-- The output under a hold is 0 (R140). -/
def heldOutput (hold : Bool) (o : Int) : Int := if hold then 0 else o

/-- A section in regular mode (R141, R143). -/
def regularStep (i : Fin 6) (cfg : SectionSettings) (e : EvalRecord) (factor : Nat) (hold : Bool) (d : DshSection) :
    DshSection :=
  let t0 := if d.latch then 0 else d.held
  let t := shape i cfg e factor t0 t0
  { d with
    t0 := t0
    target := t
    output := heldOutput hold (ramp cfg d.output t t0)
    requested := coilOfSign t0
    running := false }

/-- A section in profile mode (R147 to R149). -/
def profileStep (i : Fin 6) (cfg : SectionSettings) (table : Vector Nat 16) (e : EvalRecord) (factor : Nat) (hold : Bool)
    (d : DshSection) : DshSection :=
  if profileRuns hold d then
    let index := if d.running then d.index else cfg.startIndex
    let divider := if d.running then d.divider else 0
    let t0 := signOf d.held * ((table.toList.getD index 0 : Nat) : Int)
    let t := shape i cfg e factor d.held t0
    { d with
      t0 := t0
      target := t
      output := t
      requested := coilOfSign t0
      running := true
      index := nextIndex cfg index divider
      divider := nextDivider cfg divider }
  else
    { d with
      t0 := 0
      target := 0
      output := heldOutput hold (profileFall cfg d)
      requested := .none
      running := false }

/-- Whether a hold of R140 stands for a section. -/
def holdStands (supply : SupplyState) (st : SectionState) : Bool :=
  supply != .active || st == .fault || st == .deadtime

/-- A section at a drive period, before its record is published (R139). -/
def sectionStep (s : State) (i : Fin 6) : DshSection :=
  let cfg := s.settings.sections[i]
  let hold := holdStands s.cds.supply s.cds.sections[i].state
  match cfg.mode with
  | .regular => regularStep i cfg s.evm s.mlm.factor hold s.dsh[i]
  | .profile => profileStep i cfg s.settings.profiles[tableOf i] s.evm s.mlm.factor hold s.dsh[i]

/-- The DSH's part of a drive period (R139). -/
def shapeAll (s : State) : State := s.setDsh (Vector.ofFn (sectionStep s))

/-- The section record of a section as it stands (R150). -/
def sectionRecordOf (now : Nat) (cfg : SectionSettings) (d : DshSection) : SectionRecord :=
  { held := d.held
    expired := d.expired
    timeToExpiry := timeLeft now d.expiryDue
    latch := d.latch
    mode := cfg.mode
    t0 := d.t0
    target := d.target
    output := d.output
    requested := d.requested
    running := d.running
    index := d.index
    divider := d.divider }

/-- The section records are published whole (R150). -/
def publishSections (s : State) : State :=
  s.setDsh (Vector.ofFn fun i => { s.dsh[i] with record := sectionRecordOf s.now s.settings.sections[i] s.dsh[i] })

/-- The section record in a reply: that of the latest drive period, with the held demand and latch as they stand (R150, log
entry 13). -/
def DshSection.recordNow (d : DshSection) : SectionRecord := { d.record with held := d.held, latch := d.latch }

/-! ### Latches and expiry -/

/-- Set the neutral latch of every section (R138). -/
def setLatches (dsh : Vector DshSection 6) : Vector DshSection 6 := Vector.ofFn fun i => { dsh[i] with latch := true }

/-- Set every latch and every output to 0, as the supply's entry to LOCKED does (R138). -/
def lockSections (dsh : Vector DshSection 6) : Vector DshSection 6 :=
  Vector.ofFn fun i => { dsh[i] with latch := true, output := 0 }

/-- The expiry of a section: held demand 0, expired flag and latch set, then the demand event (R136, R137). -/
def demandExpired (v : ValveSection) (s : State) : State :=
  let d := s.dsh[v.index]
  if isDue s.now d.expiryDue then
    demandEvent (s.setDsh (s.dsh.set v.index { d with held := 0, expiryDue := none, expired := true, latch := true }))
  else s

/-- Meaning of DEMAND_EXPIRY (R136). -/
def execDemandExpiry (dt : Nat) (sec : ValveSection) (s : State) : Host.Outcome State Fault Refusal :=
  onSupply dt s (demandExpired sec)

end Sys2Proof.Machine
end

