-- ==== Sys2Proof/Machine/Coils.lean ====
section
/-! DEFINITION. Sys2Proof/Machine/Coils.lean: the Coil Driver and Supply Switch (chapter 8): faults, dead time, section
states, setpoints, the valve supply and its timers; the meanings of the drive period, the driver trip and the supply
timers. -/

namespace Sys2Proof.Machine

open Sys2Proof

/-! ### Sections -/

/-- Whether a section drives a coil (section 8.1). -/
def SectionState.drives (st : SectionState) : Bool := st == .driveA || st == .driveB

/-- Whether the coil of a section is driven: an active coil with a setpoint above 0 (R159, R160, R162). -/
def CdsSection.driven (c : CdsSection) : Bool := c.active != .none && 0 < c.setpoint

/-- BLOCKED or IDLE by the neutral latch (R157). -/
def restState (latched : Bool) : SectionState := if latched then .blocked else .idle

/-- The setpoint of an output (R159). -/
def setpointOf (cfg : SectionSettings) (o : Int) : Nat :=
  if o = 0 then 0 else cfg.iMin + o.natAbs * (cfg.iMax - cfg.iMin) / 1000

/-- The state of a section at step 3 of a drive period, by the first row that applies (R157). DESIGN CHOICE: R164 says that a
drive period after a Fault clear keeps the section BLOCKED, while row 3 of R157 gives DEADTIME as long as its dead-time
count is above 0 and the supply is ACTIVE; the model follows the row (log entry 37). -/
def sectionStateOf (st : SectionState) (supply : SupplyState) (dead : Nat) (o : Int) (latched : Bool) : SectionState :=
  if st = .fault then .fault
  else if supply ≠ .active then restState latched
  else if 0 < dead then .deadtime
  else if 0 < o then .driveA
  else if o < 0 then .driveB
  else restState latched

/-! ### Faults -/

/-- The open test of the period just ended (R160). -/
def openTest (c : CdsSection) (current : Nat) : Bool := c.driven && 200 ≤ c.setpoint && current * 2 < c.setpoint

/-- The short test of the period just ended (R161). -/
def shortTest (c : CdsSection) (current : Nat) : Bool := c.driven && c.setpoint * 13 < current * 10

/-- The fault a section is found in at step 1 of a drive period (R160, R161). -/
def judge (c : CdsSection) (current : Nat) : Option FaultCause :=
  if shortTest c current then some .short
  else if openTest c current && 3 ≤ c.opens + 1 then some .openCoil
  else none

/-- A section goes to FAULT: the record, output and setpoint 0, the dead-time count set, the open count 0 (R158, R160 to
R163). -/
def faultSection (cause : FaultCause) (measured : Option Nat) (deadTime : Nat) (c : CdsSection) : CdsSection :=
  { c with
    state := .fault
    output := 0
    active := .none
    setpoint := 0
    dead := deadTime
    opens := 0
    fault := some { cause := cause, coil := c.active, setpoint := c.setpoint, measured := measured } }

/-- A section after step 1 of a drive period (R156, R159 to R161). A coil that is not driven has measured current 0. -/
def judgeSection (cfg : SectionSettings) (c : CdsSection) (current : Nat) : CdsSection :=
  let m := if c.driven then current else 0
  let c1 := { c with measured := m, opens := if openTest c current then c.opens + 1 else 0 }
  match judge c current with
  | some cause => faultSection cause (some current) cfg.deadTime c1
  | none => c1

/-! ### The valve supply -/

/-- The coil record is published: the times left it shows, of the settle timer in WAKING and of the idle timer in ACTIVE, are
those of now (R172, log entry 26). -/
def Cds.publish (c : Cds) (now : Nat) : Cds :=
  { c with
    settleLeft := if c.supply = .waking then timeLeft now c.settleDue else none
    idleLeft := if c.supply = .active then timeLeft now c.idleDue else none }

/-- The CDS takes a new state and publishes its record (R172). -/
def State.publishCds (s : State) (c : Cds) : State := s.setCds (c.publish s.now)

/-- A section at the supply's entry to LOCKED (R165 steps 1, 4 and 5). -/
def lockSection (cfg : SectionSettings) (c : CdsSection) : CdsSection :=
  { c with
    state := if c.state = .fault then .fault else .blocked
    output := 0
    active := .none
    setpoint := 0
    dead := if c.state.drives then cfg.deadTime else c.dead }

/-- The supply enters LOCKED (R138, R165). -/
def lockSupply (cause : LockCause) (s : State) : State :=
  latch .supplyLocked
    ((s.publishCds
      { s.cds with
        sections := Vector.ofFn fun i => lockSection s.settings.sections[i] s.cds.sections[i]
        supply := .locked
        closed := false
        lockCause := some cause
        settleDue := none
        idleDue := none }).setDsh (lockSections s.dsh))

/-- The supply enters LOCKED unless it is there (R161, R162, R171). -/
def lockUnlessLocked (cause : LockCause) (s : State) : State :=
  if s.cds.supply = .locked then s else lockSupply cause s

/-- A section at the supply's entry to WAKING (R168 step 3). -/
def wakeSection (c : CdsSection) : CdsSection := if c.state = .fault then c else { c with state := .blocked }

/-- The supply enters WAKING (R138, R168). -/
def wakeSupply (s : State) : State :=
  (s.publishCds { s.cds with
    sections := Vector.ofFn fun i => wakeSection s.cds.sections[i]
    supply := .waking
    closed := true
    settleDue := some (s.now + s.settings.common.settleTime) }).setDsh (setLatches s.dsh)

/-- The idle timer's expiry instant when it is started now (R170). -/
def State.idleStart (s : State) : Nat := s.now + s.settings.common.idleTime * 1000

/-- A section at the supply's entry to ACTIVE (R169). -/
def activateSection (latched : Bool) (c : CdsSection) : CdsSection :=
  if c.state = .fault then c
  else { c with state := if 0 < c.dead then .deadtime else restState latched }

/-- The settle timer expires: ACTIVE (R169). -/
def supplySettleExpired (s : State) : State :=
  if s.cds.supply = .waking && isDue s.now s.cds.settleDue then
    s.publishCds { s.cds with
      sections := Vector.ofFn fun i => activateSection s.dsh[i].latch s.cds.sections[i]
      supply := .active
      settleDue := none
      idleDue := some s.idleStart }
  else s

/-- Meaning of SUPPLY_SETTLE_EXPIRY (R169). -/
def execSupplySettleExpiry (dt : Nat) (s : State) : Host.Outcome State Fault Refusal := onSupply dt s supplySettleExpired

/-- The idle timer expires: ASLEEP, the switch opens, every setpoint is 0, ActivityTimeout (R165, R170). -/
def idleTimerExpired (s : State) : State :=
  if s.cds.supply = .active && isDue s.now s.cds.idleDue then
    latch .activityTimeout
      (s.publishCds { s.cds with
        sections := Vector.ofFn fun i => { s.cds.sections[i] with setpoint := 0 }
        supply := .asleep
        closed := false
        idleDue := none })
  else s

/-- Meaning of IDLE_TIMER_EXPIRY (R170). -/
def execIdleTimerExpiry (dt : Nat) (s : State) : Host.Outcome State Fault Refusal := onSupply dt s idleTimerExpired

/-! ### The drive period -/

/-- The faults found at step 1 are applied to the sections, their outputs set to 0, CoilFault latched, and a short locks
the supply (R138, R156 step 1, R160, R161). -/
def judgeAll (currents : Vector Nat 6) (s : State) : State :=
  let found : Fin 6 → Option FaultCause := fun i => judge s.cds.sections[i] currents[i]
  let s1 := s.setCds { s.cds with
    sections := Vector.ofFn fun i => judgeSection s.settings.sections[i] s.cds.sections[i] currents[i] }
  let s2 := s1.setDsh (Vector.ofFn fun i => if (found i).isSome then { s.dsh[i] with output := 0 } else s.dsh[i])
  let s3 := latchIf ((List.finRange 6).any fun i => (found i).isSome) .coilFault s2
  if (List.finRange 6).any fun i => found i == some .short then lockUnlessLocked .coilShort s3 else s3

/-- The dead-time count after step 2: set when the section drove a coil as the period found it and its output is now 0,
else run down by one (R158, log entry 8). -/
def nextDead (drove : Bool) (o : Int) (deadTime dead : Nat) : Nat :=
  if drove && o = 0 then deadTime else dead - 1

/-- A section after steps 2 to 4 of a drive period (R156 to R159). The setpoint stands on the active coil: a section with
none carries 0 mA (section 8.1, log entry 29). -/
def coilSection (cfg : SectionSettings) (supply : SupplyState) (drove : Bool) (d : DshSection) (c : CdsSection) :
    CdsSection :=
  let dead := nextDead drove d.output cfg.deadTime c.dead
  let st := sectionStateOf c.state supply dead d.output d.latch
  { c with
    state := st
    output := d.output
    active := st.coil
    setpoint := if st.drives then setpointOf cfg d.output else 0
    dead := dead }

/-- Whether all six outputs are 0. -/
def allOutputsZero (dsh : Vector DshSection 6) : Bool := (List.finRange 6).all fun i => dsh[i].output == 0

/-- The idle timer after a drive period: cancelled while an output is nonzero, started when the last one has fallen to 0
(R170). -/
def idleAfterPeriod (before : Vector DshSection 6) (s : State) : Option Nat :=
  if s.cds.supply = .active then
    if !allOutputsZero s.dsh then none
    else if !allOutputsZero before then some s.idleStart
    else s.cds.idleDue
  else s.cds.idleDue

/-- Steps 2 to 4 of a drive period, with the section states and outputs the period found; the coil record is published
(R156, R170, R172). -/
def coilsAll (found : State) (s : State) : State :=
  s.publishCds { s.cds with
    sections := Vector.ofFn fun i =>
      coilSection s.settings.sections[i] s.cds.supply found.cds.sections[i].state.drives s.dsh[i] s.cds.sections[i]
    idleDue := idleAfterPeriod found.dsh s }

/-- A drive period: the DSH forms the outputs, the CDS judges the period just ended and sets counts, states and setpoints,
and the section records are published (R139, R150, R156). -/
def drivePeriodTaken (currents : Vector Nat 6) (s : State) : State :=
  publishSections (coilsAll s (judgeAll currents (shapeAll s)))

/-- Meaning of DRIVE_PERIOD (R139, R156). -/
def execDrivePeriod (dt : Nat) (currents : Vector Nat 6) (s : State) : Host.Outcome State Fault Refusal :=
  onSupply dt s (drivePeriodTaken currents)

/-- A driver trip: the section goes to FAULT as Short with measured current "trip", CoilFault, and the supply is locked; it
cannot fire on a section whose coil is not driven (R162). -/
def driverTripped (v : ValveSection) (s : State) : State :=
  let i := v.index
  let c := s.cds.sections[i]
  if c.driven then
    let s1 := s.publishCds { s.cds with
      sections := s.cds.sections.set i (faultSection .short none s.settings.sections[i].deadTime c) }
    let s2 := s1.setDsh (s1.dsh.set i { s1.dsh[i] with output := 0 })
    lockUnlessLocked .coilShort (latch .coilFault s2)
  else s

/-- Meaning of DRIVER_TRIP (R162). -/
def execDriverTrip (dt : Nat) (sec : ValveSection) (s : State) : Host.Outcome State Fault Refusal :=
  onSupply dt s (driverTripped sec)

end Sys2Proof.Machine
end

