-- ==== Sys2Proof/Machine/Geometry.lean ====
section
/-! DEFINITION. Sys2Proof/Machine/Geometry.lean: the Sensor Scan Unit (chapter 1): channel states, calibration, tip reach,
tilt-along and the scan record. -/

namespace Sys2Proof.Machine

open Sys2Proof

/-- A raw sample of 80..4 015 is a good scan (R2). -/
def goodScan (c : Nat) : Bool := inRange 80 4015 c

/-- The calibrated value of a good sample, rounded half away from zero as a whole and clamped to the range (R3). -/
def calibrate (cal : ChannelCal) (lo hi : Int) (c : Nat) : Int :=
  let span : Int := cal.rawHi - cal.rawLo
  clampInt lo hi (roundHalfAway (cal.valLo * span + ((c : Int) - cal.rawLo) * (cal.valHi - cal.valLo)) span)

/-- One channel's move at a scan, by the class of its sample; `v` is the calibrated sample (R5, R6). -/
def moveChannel (good : Bool) (v : Int) (u : ChannelUnit) : ChannelUnit :=
  match u.state, good with
  | .good, true => { u with value := v }
  | .good, false => { u with state := .hold, bad := 1 }
  | .hold, true => { u with state := .good, value := v, bad := 0 }
  | .hold, false =>
    if 6 ≤ u.bad + 1 then { u with state := .lost, bad := u.bad + 1, good := 0 } else { u with bad := u.bad + 1 }
  | .lost, true =>
    if 10 ≤ u.good + 1 then { state := .good, value := v, bad := 0, good := 0 } else { u with good := u.good + 1 }
  | .lost, false => { u with good := 0 }

/-- The nine channels after a scan (R1, R4, R5). -/
def scanChannels (cal : Vector ChannelCal 9) (raw : Vector Nat 9) (chs : Vector ChannelUnit 9) : Vector ChannelUnit 9 :=
  Vector.ofFn fun i =>
    moveChannel (goodScan raw[i]) (calibrate cal[i] (channelMin i) (channelMax i) raw[i]) chs[i]

/-- Whether a channel has entered LOST at this scan (R7). -/
def someEnteredLost (before after : Vector ChannelUnit 9) : Bool :=
  (List.finRange 9).any fun i => before[i].state != .lost && after[i].state == .lost

/-- The state of a channel. -/
def stateOf (chs : Vector ChannelUnit 9) (c : Channel) : ChannelState := chs[c.index].state

/-- The value of a channel. -/
def valueOf (chs : Vector ChannelUnit 9) (c : Channel) : Int := chs[c.index].value

/-- The tip reach before its clamp (R10). -/
def reachSum (g : Geometry) (mainAngle outerAngle extension : Int) : Int :=
  g.pillar + roundHalfUp (g.mainLen * cosEntry mainAngle.natAbs) 16384 +
    roundHalfUp ((g.outerLen + extension) * cosEntry outerAngle.natAbs) 16384

/-- The tip reach R, mm (R10). -/
def tipReach (g : Geometry) (mainAngle outerAngle extension : Int) : Nat :=
  (clampInt 0 12000 (reachSum g mainAngle outerAngle extension)).toNat

/-- The tip is valid when none of SLEW, MAIN, OUTER and TELE is LOST (R11). -/
def tipIsValid (chs : Vector ChannelUnit 9) : Bool :=
  stateOf chs .slew != .lost && stateOf chs .mainBoom != .lost && stateOf chs .outer != .lost &&
    stateOf chs .tele != .lost

/-- Tilt-along from pitch, roll and slew (R13). -/
def tiltAlong (pitch roll slew : Int) : Int := roundHalfAway (pitch * cosOf slew + roll * sinOf slew) 16384

/-- ROLL or PITCH is LOST (R14). -/
def tiltLost (chs : Vector ChannelUnit 9) : Bool := stateOf chs .roll == .lost || stateOf chs .pitch == .lost

/-- The scan record of the channels as a scan leaves them (R10 to R15). -/
def scanRecordOf (g : Geometry) (chs : Vector ChannelUnit 9) : ScanRecord :=
  { channels := Vector.ofFn fun i => { state := chs[i].state, value := chs[i].value }
    slew := valueOf chs .slew
    reach := tipReach g (valueOf chs .mainBoom) (valueOf chs .outer) (valueOf chs .tele)
    tipValid := tipIsValid chs
    artic := valueOf chs .artic
    tilt := if tiltLost chs then 200 else tiltAlong (valueOf chs .pitch) (valueOf chs .roll) (valueOf chs .slew)
    substituted := tiltLost chs }

/-- The SSU's part of a scan: channels, ChannelLost, then the scan record (R1, R7, R15). -/
def scanSensors (raw : Vector Nat 9) (s : State) : State :=
  let chs := scanChannels s.settings.cal raw s.ssu.channels
  let s1 := latchIf (someEnteredLost s.ssu.channels chs) .channelLost (s.setSsu { s.ssu with channels := chs })
  s1.setSsu { channels := chs, record := scanRecordOf s.settings.geometry chs }

end Sys2Proof.Machine
end

