-- ==== Sys2Proof/Machine/Zones.lean ====
section
/-! DEFINITION. Sys2Proof/Machine/Zones.lean: the Envelope Monitor's evaluation (chapter 5). -/

namespace Sys2Proof.Machine

open Sys2Proof

/-- State of a channel in the scan record (R15). -/
def ScanRecord.stateOf (r : ScanRecord) (c : Channel) : ChannelState := r.channels[c.index].state

/-- Value of a channel in the scan record (R15). -/
def ScanRecord.valueOf (r : ScanRecord) (c : Channel) : Int := r.channels[c.index].value

/-- A slew bound clamped to −1 900..+1 900 (R101, R102). -/
def clampSlew (x : Int) : Int := clampInt (-1900) 1900 x

/-- The effective bounds of a zone (R101, R102). -/
def effectiveBounds (r : ScanRecord) (z : Zone) : Int × Int :=
  match z.chassis with
  | .rear => (z.slewStart, z.slewStop)
  | .front =>
    if r.stateOf .artic = .lost then (clampSlew (z.slewStart - 450), clampSlew (z.slewStop + 450))
    else (clampSlew (z.slewStart + r.artic), clampSlew (z.slewStop + r.artic))

/-- The stored fields are ordered, as R111 requires of an enabled zone. -/
def Zone.ordered (z : Zone) : Bool := z.slewStart ≤ z.slewStop && z.reachMin ≤ z.reachMax

/-- The reach lies in the zone's band (R103). -/
def Zone.bandHolds (z : Zone) (reach : Nat) : Bool := z.reachMin ≤ reach && reach ≤ z.reachMax

/-- A zone contains the tip of a valid record (R103). -/
def containsTip (r : ScanRecord) (z : Zone) : Bool :=
  z.ordered && (effectiveBounds r z).1 ≤ r.slew && r.slew ≤ (effectiveBounds r z).2 && z.bandHolds r.reach

/-- A STOP zone is armed while the reach lies in its band (R103). -/
def zoneArmed (r : ScanRecord) (z : Zone) : Bool := z.kind == .stop && z.bandHolds r.reach

/-- The evaluation of one zone: bounds, membership, armed (R101 to R103, R108). -/
def evalZone (r : ScanRecord) (z : Zone) : ZoneEval :=
  if r.tipValid then
    { bounds := some (effectiveBounds r z)
      membership := if containsTip r z then .inZone else .outZone
      armed := zoneArmed r z }
  else { bounds := some (effectiveBounds r z), membership := .unknown, armed := false }

/-- Guard factor at a distance (R106). -/
def guardFactor (delta guard : Nat) : Nat := if guard ≤ delta then 1000 else delta * 1000 / guard

/-- The guard factor a zone gives to direction A: an armed enabled STOP zone above the tip (R106). -/
def guardA (r : ScanRecord) (z : Zone) : Option Nat :=
  if z.enable && zoneArmed r z && !containsTip r z && r.slew < (effectiveBounds r z).1 then
    some (guardFactor ((effectiveBounds r z).1 - r.slew).toNat z.guard)
  else none

/-- The guard factor a zone gives to direction B: an armed enabled STOP zone below the tip (R106). -/
def guardB (r : ScanRecord) (z : Zone) : Option Nat :=
  if z.enable && zoneArmed r z && !containsTip r z && (effectiveBounds r z).2 < r.slew then
    some (guardFactor (r.slew - (effectiveBounds r z).2).toNat z.guard)
  else none

/-- An enabled BUNK zone contains the tip (R104). -/
def bunkHolds (r : ScanRecord) (zones : Vector Zone 8) : Bool :=
  zones.toList.any fun z => z.enable && z.kind == .bunk && containsTip r z

/-- The slow factor with a valid tip (R105). -/
def slowFactor (r : ScanRecord) (zones : Vector Zone 8) : Nat :=
  minFactor ((zones.toList.filter fun z => z.enable && z.kind == .slow && containsTip r z).map Zone.slow)

/-- An armed enabled STOP zone contains the tip (R107). -/
def intrudes (r : ScanRecord) (zones : Vector Zone 8) : Bool :=
  zones.toList.any fun z => z.enable && zoneArmed r z && containsTip r z

/-- The evaluation record of a scan; the intrusion flag is held while the tip is invalid (R100 to R108). -/
def evaluateZones (r : ScanRecord) (zones : Vector Zone 8) (heldIntrusion : Bool) : EvalRecord :=
  let evals := Vector.ofFn fun i => evalZone r zones[i]
  if r.tipValid then
    { bunk := if bunkHolds r zones then .inside else .outside
      slow := slowFactor r zones
      slewA := minFactor (zones.toList.filterMap (guardA r))
      slewB := minFactor (zones.toList.filterMap (guardB r))
      intrusion := intrudes r zones
      zones := evals }
  else
    { bunk := .unknown
      slow := worstSlow zones
      slewA := worstSlew zones
      slewB := worstSlew zones
      intrusion := heldIntrusion
      zones := evals }

/-- The EVM's part of a scan: the evaluation, and ZoneIntrusion when the flag goes from clear to set (R100, R107, R108).
-/
def scanZones (s : State) : State :=
  let e := evaluateZones s.ssu.record s.settings.zones s.evm.intrusion
  latchIf (!s.evm.intrusion && e.intrusion) .zoneIntrusion (s.setEvm e)

end Sys2Proof.Machine
end

