-- ==== Sys2Proof/Machine/Limiter.lean ====
section
/-! DEFINITION. Sys2Proof/Machine/Limiter.lean: the Moment Limiter's evaluation (chapter 6). -/

namespace Sys2Proof.Machine

open Sys2Proof

/-- The source of a scan (R117). -/
def sourceOf (r : ScanRecord) (latest : Option Sample) : MomentSource :=
  if latest.any Sample.linkForce then .link
  else if r.stateOf .ppist != .lost && r.stateOf .prod != .lost then .pressure
  else .none

/-- The tip force: the floored mean of the ring (R118). -/
def tipForce (ring : List Int) : Int := floorDiv ring.sum ring.length

/-- The moment clamp (R119, R120). -/
def clampMoment (m : Int) : Nat := (clampInt 0 999999 m).toNat

/-- The moment in LINK (R119). -/
def linkMoment (force : Int) (reach : Nat) : Nat := clampMoment (floorDiv (force * reach) 1000)

/-- The cylinder force, N (R120 steps 1 and 2). -/
def cylinderForce (c : LimiterSettings) (pist rod : Int) : Int :=
  max 0 (floorDiv (pist * c.pistonArea - rod * c.rodArea) 100)

/-- The moment in PRESSURE (R120). -/
def pressureMoment (c : LimiterSettings) (pist rod : Int) : Nat :=
  clampMoment (floorDiv (cylinderForce c pist rod * c.lever) 1000)

/-- Tilt-along used: clamped to the table (R121). -/
def clampTilt (t : Int) : Int := clampInt (-200) 200 t

/-- The lower entry index of R121 step 1. -/
def ratedIndex (t : Int) : Nat := min 7 ((t + 200) / 50).toNat

/-- The rated moment at a clamped tilt-along (R121). -/
def ratedMoment (table : Vector Nat 9) (t : Int) : Int :=
  let i := ratedIndex t
  let lo : Int := table.toList.getD i 0
  let hi : Int := table.toList.getD (i + 1) 0
  lo + truncDiv ((hi - lo) * (t - (-200 + 50 * (i : Int)))) 50

/-- Utilisation (R122). -/
def utilisation (moment : Nat) (rated : Int) : Nat := (clampInt 0 1999 (floorDiv (moment * 1000) rated)).toNat

/-- Warn level in force (R123). -/
def warnLevelFor (c : LimiterSettings) (src : MomentSource) : Int :=
  match src with
  | .pressure => (c.warnOn : Int) - c.derate
  | .link | .none => c.warnOn

/-- Limit level in force (R123). -/
def limitLevelFor (c : LimiterSettings) (src : MomentSource) : Int :=
  match src with
  | .pressure => (c.limitOn : Int) - c.derate
  | .link | .none => c.limitOn

/-- The state taken from u directly (R126), which is also how NORMAL moves (R125). -/
def stateFromU (u warn limit : Int) : LimiterState :=
  if limit ≤ u then .limit .moment else if warn ≤ u then .warn else .normal

/-- The move of the limiter state at a scan with a moment (R125, R126). -/
def moveLimiter (st : LimiterState) (u warn limit hyst : Int) : LimiterState :=
  match st with
  | .normal => stateFromU u warn limit
  | .warn => if limit ≤ u then .limit .moment else if u < warn - hyst then .normal else .warn
  | .limit .moment => if u < limit - hyst then .warn else .limit .moment
  | .limit .noGeometry | .limit .noSource | .limit .starting => stateFromU u warn limit

/-- The factor for RAISING directions (R129). -/
def limiterFactor (st : LimiterState) (u warn limit : Int) : Nat :=
  match st with
  | .normal => 1000
  | .warn => (clampInt 0 1000 (floorDiv ((limit - u) * 1000) (limit - warn))).toNat
  | .limit _ => 0

/-- The figures of a scan with a moment (R118 to R123). -/
def momentFigures (set : Settings) (r : ScanRecord) (ring : List Int) (src : MomentSource) : MomentFigures :=
  let moment := match src with
    | .link => linkMoment (tipForce ring) r.reach
    | .pressure | .none => pressureMoment set.limiter (r.valueOf .ppist) (r.valueOf .prod)
  let t := clampTilt r.tilt
  let rated := ratedMoment set.rated t
  { tip := if src = .link then some (tipForce ring, ring.length) else none
    moment := moment
    tilt := t
    rated := rated
    u := utilisation moment rated
    warnLevel := warnLevelFor set.limiter src
    limitLevel := limitLevelFor set.limiter src }

/-- The limiter record of a scan (R116 to R130). -/
def evaluateLimiter (set : Settings) (r : ScanRecord) (latest : Option Sample) (ring : List Int) (st : LimiterState) :
    LimiterRecord :=
  let src := sourceOf r latest
  if !r.tipValid then { source := src, figures := none, state := .limit .noGeometry, factor := 0 }
  else if src = .none then { source := src, figures := none, state := .limit .noSource, factor := 0 }
  else
    let f := momentFigures set r ring src
    let st' := moveLimiter st f.u f.warnLevel f.limitLevel set.limiter.hyst
    { source := src, figures := some f, state := st', factor := limiterFactor st' f.u f.warnLevel f.limitLevel }

/-- Whether a limiter state is LIMIT, whatever its cause. -/
def LimiterState.isLimit : LimiterState → Bool
  | .limit _ => true
  | .normal | .warn => false

/-- The MLM's part of a scan: the record, and the latches of its entries to WARN and to LIMIT (R116, R128). -/
def scanLimiter (s : State) : State :=
  let m := evaluateLimiter s.settings s.ssu.record s.wlc.latest s.wlc.ring s.mlm.state
  let s1 := latchIf (m.state = .warn && s.mlm.state != .warn) .limiterWarn (s.setMlm m)
  latchIf (m.state.isLimit && !s.mlm.state.isLimit) .limiterLimit s1

/-- A scan: the SSU, then the EVM, then the MLM on the record just published (R1). -/
def scanned (raw : Vector Nat 9) (s : State) : State := scanLimiter (scanZones (scanSensors raw s))

/-- Meaning of SCAN (R1). -/
def execScan (dt : Nat) (raw : Vector Nat 9) (s : State) : Host.Outcome State Fault Refusal := onSupply dt s (scanned raw)

end Sys2Proof.Machine
end

