-- ==== Sys2Proof/Machine/Frames.lean ====
section
/-! DEFINITION. Sys2Proof/Machine/Frames.lean: the two checks (CRC-8 of the weigh link, R24; CRC-16 of the cab line, R178)
and the number encodings of R181. -/

namespace Sys2Proof.Machine

open Sys2Proof

/-- One bit step of the CRC-8 with polynomial x⁸ + x² + x + 1, most significant bit first (R24). -/
def crc8Bit (c : BitVec 8) : BitVec 8 := if c.msb then (c <<< 1) ^^^ 0x07#8 else c <<< 1

/-- One byte of the CRC-8 (R24). -/
def crc8Byte (c : BitVec 8) (b : Byte) : BitVec 8 :=
  crc8Bit (crc8Bit (crc8Bit (crc8Bit (crc8Bit (crc8Bit (crc8Bit (crc8Bit (c ^^^ b))))))))

/-- CRC-8 over bytes in the order sent, initial value 0 (R24). -/
def crc8 (bytes : List Byte) : BitVec 8 := bytes.foldl crc8Byte 0#8

/-- One bit step of the CRC-16 with polynomial x¹⁶ + x¹² + x⁵ + 1, most significant bit first (R178). -/
def crc16Bit (c : BitVec 16) : BitVec 16 := if c.msb then (c <<< 1) ^^^ 0x1021#16 else c <<< 1

/-- One byte of the CRC-16 (R178). -/
def crc16Byte (c : BitVec 16) (b : Byte) : BitVec 16 :=
  crc16Bit (crc16Bit (crc16Bit (crc16Bit (crc16Bit (crc16Bit (crc16Bit (crc16Bit
    (c ^^^ (b.zeroExtend 16 <<< 8)))))))))

/-- CRC-16 over bytes in the order sent, initial value 0xFFFF (R178). -/
def crc16 (bytes : List Byte) : BitVec 16 := bytes.foldl crc16Byte 0xFFFF#16

/-- The low `n` bytes of a natural number, most significant first (R181). -/
def natBytes : Nat → Nat → List Byte
  | 0, _ => []
  | n + 1, x => natBytes n (x / 256) ++ [BitVec.ofNat 8 x]

/-- A signed number in `n` bytes of two's complement, most significant first (R181). -/
def intBytes (n : Nat) (x : Int) : List Byte := natBytes n (x % (256 ^ n : Nat)).toNat

/-- The bytes of a word, most significant first. -/
def bytesOf16 (x : BitVec 16) : List Byte := natBytes 2 x.toNat

/-- The bytes of a 32-bit word, most significant first. -/
def bytesOf32 (x : BitVec 32) : List Byte := natBytes 4 x.toNat

/-- The number a list of bytes spells, most significant first, unsigned (R181). -/
def natOfBytes (bytes : List Byte) : Nat := bytes.foldl (fun x b => x * 256 + b.toNat) 0

/-- The signed 16-bit number two bytes spell (R181). -/
def intOfBytes (bytes : List Byte) : Int :=
  let m : Nat := 256 ^ bytes.length
  let x := natOfBytes bytes
  if 2 * x < m then x else (x : Int) - m

/-- The start marker (R176). -/
def startMarker : Byte := 0x7E#8

/-- A frame of a kind and a payload: marker, length, kind, payload, CRC-16 high byte first (R176, R178). -/
def frameBytes (kind : Byte) (payload : List Byte) : List Byte :=
  let body := BitVec.ofNat 8 payload.length :: kind :: payload
  startMarker :: (body ++ bytesOf16 (crc16 body))

end Sys2Proof.Machine
end

