-- ==== Sys2Proof/Machine/Link.lean ====
section
/-! DEFINITION. Sys2Proof/Machine/Link.lean: the Weigh Link Controller (chapter 2): detect line, head supply, identity,
poll and sample, force ring, recovery, failure and the tare's samples; the meanings of the link events. -/

namespace Sys2Proof.Machine

open Sys2Proof

/-! ### Fixed times, ms (R20, R23, R25, R28, R29, R33, R34) -/

def debounceTime : Nat := 200
def powerOffTime : Nat := 20
def linkSettleTime : Nat := 50
def answerTime : Nat := 3
def readInterval : Nat := 10
def pollInterval : Nat := 10
def lineTime : Nat := 1
def historyTime : Nat := 10000

/-! ### Leaving RUNNING -/

/-- What every departure of the link from its exchange clears: the activity is abandoned and the two lines are released, the
latest sample is cleared, the ring emptied (R22, R23, R31, R32, R33, R35, R37). -/
def Wlc.abandon (w : Wlc) : Wlc := { w with activity := .none, sent := [.release], latest := none, ring := [] }

/-- A running tare ends with reason Link, and the engine takes the departure (R22, R35, R37, R42, R61). DESIGN CHOICE: the
manual gives no order between the two; the tare ends first (log entry 32). -/
def linkLeft (s : State) : State := engineLinkLeft (failTare .link s)

/-- Entry to FAILED (R35). DESIGN CHOICE: the manual gives no order between R35's LinkFault and the capture end of R61; the
model latches LinkFault first, so its Change report stands before the Weigh Result report (log entry 32). -/
def enterFailed (cause : LinkCause) (s : State) : State :=
  linkLeft (latch .linkFault
    (s.setWlc { s.wlc.abandon with state := .failed, cause := cause, supply := false, identity := none }))

/-- Entry to ABSENT (R22). -/
def enterAbsent (s : State) : State :=
  linkLeft (s.setWlc { s.wlc.abandon with
    state := .absent, cause := .none, supply := false, identity := none, failures := 0, history := [] })

/-- Entry to IDENTIFYING, after what this event has sent before it: the identity is cleared, the failed reads are counted
from 0, and the identity request of the first read is sent (R23, R25, R33). -/
def enterIdentifying (before : List LinkSignal) (s : State) : State :=
  s.setWlc { s.wlc with
    state := .identifying
    identity := none
    failedReads := 0
    activity := .reading s.now
    sent := before ++ [.identityRequest] }

/-- Entry to POWERING from ABSENT on the debounced change to PRESENT: the switch closes and the settle timer starts
(R21, R23). -/
def powerOn (s : State) : State :=
  s.setWlc { s.wlc with state := .powering, supply := true, activity := .settling (s.now + linkSettleTime) }

/-! ### Detect line -/

/-- The detect line takes a level: one that differs from the debounced status starts the debounce timer, one that equals
it cancels the timer (R20). -/
def lineChanged (level : Bool) (s : State) : State :=
  if level = s.wlc.detectLine then s
  else
    s.setWlc { s.wlc with
      detectLine := level
      debounceDue := if level = s.wlc.detect then none else some (s.now + debounceTime) }

/-- Meaning of DETECT_LINE_CHANGE (R20). Without the main supply only the pin's level changes (log entry 7). -/
def execDetectLineChange (dt : Nat) (level : Bool) (s : State) : Host.Outcome State Fault Refusal :=
  let s1 := s.tick dt
  .next (if s.power.main then lineChanged level s1 else s1.setWlc { s1.wlc with detectLine := level })

/-- The debounced status becomes PRESENT: LinkAttached, and with auto power on an ABSENT link goes to POWERING (R20,
R21). -/
def becamePresent (s : State) : State :=
  let s1 := latch .linkAttached (s.setWlc { s.wlc with detect := true, debounceDue := none })
  if s1.wlc.state = .absent && s1.settings.autoPower then powerOn s1 else s1

/-- The debounced status becomes ABSENT: LinkRemoved, and the link goes to ABSENT (R20, R22). -/
def becameAbsent (s : State) : State :=
  enterAbsent (latch .linkRemoved (s.setWlc { s.wlc with detect := false, debounceDue := none }))

/-- The debounce timer expires (R20). -/
def debounceExpired (s : State) : State :=
  if isDue s.now s.wlc.debounceDue then
    if s.wlc.detect then becameAbsent s else becamePresent s
  else s

/-- Meaning of DEBOUNCE_EXPIRY (R20 to R22). -/
def execDebounceExpiry (dt : Nat) (s : State) : Host.Outcome State Fault Refusal := onSupply dt s debounceExpired

/-- The 20 ms off time ends: the switch closes and the settle timer starts (R23). -/
def powerOffTimeExpired (s : State) : State :=
  match s.wlc.activity with
  | .offTime ends =>
    if ends ≤ s.now then
      s.setWlc { s.wlc with supply := true, activity := .settling (s.now + linkSettleTime) }
    else s
  | _ => s

/-- Meaning of POWER_OFF_TIME_EXPIRY (R23). -/
def execPowerOffTimeExpiry (dt : Nat) (s : State) : Host.Outcome State Fault Refusal := onSupply dt s powerOffTimeExpired

/-- The settle timer expires: IDENTIFYING (R23, R25). -/
def linkSettleExpired (s : State) : State :=
  match s.wlc.activity with
  | .settling ends => if ends ≤ s.now then enterIdentifying [] s else s
  | _ => s

/-- Meaning of LINK_SETTLE_EXPIRY (R23). -/
def execLinkSettleExpiry (dt : Nat) (s : State) : Host.Outcome State Fault Refusal := onSupply dt s linkSettleExpired

/-! ### Identity -/

/-- The ten bytes of the identity record before its check, in the order sent (R24). -/
def identityBody (a : IdentityAnswer) : List Byte :=
  bytesOf32 a.serial ++ bytesOf16 a.rating ++ bytesOf16 a.zero ++ bytesOf16 a.scale

/-- A read that does not fail: check, rating and K (R25). -/
def identityReadOk (a : IdentityAnswer) : Bool :=
  crc8 (identityBody a) == a.check && inRange 10000 60000 a.rating.toNat && inRange 1 16383 a.scale.toNat

/-- The head identity a record gives (R26). -/
def identityOf (a : IdentityAnswer) : HeadIdentity :=
  { serial := a.serial.toNat, rating := a.rating.toNat, zero := a.zero.toNat, scale := a.scale.toNat }

/-- Whether the calibration record is bound to another head (R26). -/
def boundElsewhere (c : CalRecord) (serial : Nat) : Bool := c.bound.any (· != serial)

/-- The comparison with the bound serial: a different one unbinds the record and latches CalMismatch (R26). -/
def compareSerial (serial : Nat) (s : State) : State :=
  if boundElsewhere s.settings.calRecord serial then
    latch .calMismatch
      (s.setSettings { s.settings with calRecord := { s.settings.calRecord with bound := none, tareDone := false } })
  else s

/-- A poll is made: the sample request is sent, with the next poll number (R27, R29). -/
def makePoll (s : State) : State :=
  s.setWlc { s.wlc with
    activity := .polling s.wlc.nextPoll s.now
    sent := [.sampleRequest]
    nextPoll := (s.wlc.nextPoll + 1) % 65536 }

/-- Entry to RUNNING: failure count 0, ring empty, the first poll made, and the engine's lift-trigger test (R26, R53). -/
def enterRunning (s : State) : State :=
  triggerArmed (makePoll (s.setWlc { s.wlc with state := .running, failures := 0, ring := [] }))

/-- A valid identity read (R26). -/
def identityValid (h : HeadIdentity) (s : State) : State :=
  enterRunning (compareSerial h.serial (s.setWlc { s.wlc with identity := some h }))

/-- A failed identity read begun at `began`: the third gives FAILED, else the next read follows 10 ms after its start
(R25). -/
def identityFailed (began : Nat) (s : State) : State :=
  let s1 := s.setWlc { s.wlc with
    failedReads := s.wlc.failedReads + 1, activity := .retryWait (began + readInterval) }
  if 3 ≤ s1.wlc.failedReads then enterFailed .noIdentity s1 else s1

/-- An identity read ends: with a complete answer inside the 3 ms, or at their expiry; an answer after them is ignored
(R25, log entry 24). -/
def identityReadEnded (answer : Option IdentityAnswer) (s : State) : State :=
  match s.wlc.activity with
  | .reading began =>
    match answer with
    | some a =>
      if s.now ≤ began + answerTime && identityReadOk a then identityValid (identityOf a) s else identityFailed began s
    | none => if began + answerTime ≤ s.now then identityFailed began s else s
  | _ => s

/-- Meaning of IDENTITY_READ_END (R25, R26). -/
def execIdentityReadEnd (dt : Nat) (answer : Option IdentityAnswer) (s : State) : Host.Outcome State Fault Refusal :=
  onSupply dt s (identityReadEnded answer)

/-- The next identity read is made: its request is sent (R25). -/
def identityRetried (s : State) : State :=
  match s.wlc.activity with
  | .retryWait due =>
    if due ≤ s.now then s.setWlc { s.wlc with activity := .reading s.now, sent := [.identityRequest] } else s
  | _ => s

/-- Meaning of IDENTITY_RETRY (R25). -/
def execIdentityRetry (dt : Nat) (s : State) : Host.Outcome State Fault Refusal := onSupply dt s identityRetried

/-! ### Poll and sample -/

/-- The next poll of a RUNNING link (R27, R29). -/
def pollMade (s : State) : State :=
  match s.wlc.activity with
  | .pollWait due => if due ≤ s.now then makePoll s else s
  | _ => s

/-- Meaning of POLL (R29). -/
def execPoll (dt : Nat) (s : State) : Host.Outcome State Fault Refusal := onSupply dt s pollMade

/-- The five bytes of the sample record before its check, in the order sent (R27). -/
def sampleBody (a : SampleAnswer) : List Byte := bytesOf16 a.count ++ bytesOf16 a.swing ++ [a.status]

/-- The head's status code (R27). -/
def statusOfCode (code : Nat) : Option SampleStatus :=
  match code with
  | 0 => some .ok
  | 1 => some .overload
  | 2 => some .swingFault
  | 3 => some .temp
  | _ => none

/-- The force before the clamp: (c − Z) × K × T / 4 096 000 rounded half away from zero (R30). -/
def rawForce (h : HeadIdentity) (trim count : Nat) : Int :=
  roundHalfAway (((count : Int) - h.zero) * h.scale * trim) 4096000

/-- The clamp of R30. -/
def clampForce (f : Int) : Int := clampInt (-5000) 40000 f

/-- The published status: an OK whose unclamped force exceeds the rating is published as OVERLOAD (R30). -/
def publishedStatus (h : HeadIdentity) (force : Int) (reported : SampleStatus) : SampleStatus :=
  if reported = .ok && (h.rating : Int) < force then .overload else reported

/-- What a GOOD outcome publishes (R30, R31). -/
def goodSample (h : HeadIdentity) (trim count swing : Nat) (reported : SampleStatus) : GoodSample :=
  let f := rawForce h trim count
  { count := count
    swing := swing
    status := publishedStatus h f reported
    force := clampForce f
    clamped := clampForce f != f }

/-- The outcome of a complete answer inside the 3 ms (R28). -/
def answerOutcome (h : HeadIdentity) (trim : Nat) (a : SampleAnswer) : PollOutcome :=
  match statusOfCode a.status.toNat with
  | some st =>
    if crc8 (sampleBody a) == a.check && a.swing.toNat ≤ 900 then
      .good (goodSample h trim a.count.toNat a.swing.toNat st)
    else .corrupt
  | none => .corrupt

/-- The force of a force-usable outcome: GOOD with status OK, OVERLOAD or TEMP (R31). -/
def PollOutcome.usableForce (o : PollOutcome) : Option Int :=
  match o with
  | .good d => if d.status = .swingFault then none else some d.force
  | .corrupt | .missing => none

/-- Whether an outcome is GOOD. -/
def PollOutcome.isGood (o : PollOutcome) : Bool :=
  match o with
  | .good _ => true
  | .corrupt | .missing => false

/-- A sample is published: the ring first, then the sample record with its flags (R28, R31, R32). -/
def publishSample (number began : Nat) (o : PollOutcome) (s : State) : State :=
  let ring := match o.usableForce with
    | some f => ringPush 8 s.wlc.ring f
    | none => s.wlc.ring
  s.setWlc { s.wlc with
    activity := .pollWait (began + pollInterval)
    failures := if o.isGood then 0 else s.wlc.failures + 1
    ring := ring
    latest := some
      { poll := number
        outcome := o
        forceUsable := o.usableForce.isSome
        linkForce := s.wlc.state = .running && !ring.isEmpty && o.usableForce.isSome } }

/-! ### The tare's samples -/

/-- The tare force of a sample the tare accepts: GOOD, published status OK, swing within the limit, and the force at the
stored trim within 0..40 000 N and not clamped (R40). -/
def acceptedTareForce (h : HeadIdentity) (trim swingLimit : Nat) (o : PollOutcome) : Option Nat :=
  match o with
  | .good d =>
    let f := rawForce h trim d.count
    if d.status = .ok && d.swing ≤ swingLimit && inRangeInt 0 40000 f then some f.toNat else none
  | .corrupt | .missing => none

/-- The tare at its 32nd accepted sample (R41). -/
def finishTare (h : HeadIdentity) (s : State) : State :=
  let kg := grossMass (meanForce s.wlc.tare.sum 32)
  if 2000 < kg then failTare .overRange s
  else
    endTare (.done kg)
      (s.setSettings { s.settings with
        calRecord := { s.settings.calRecord with tare := kg, bound := some h.serial, tareDone := true } })

/-- A running tare takes a published sample (R40 to R42). -/
def tareSample (h : HeadIdentity) (o : PollOutcome) (s : State) : State :=
  if s.wlc.tare.state = .running then
    match acceptedTareForce h s.settings.calRecord.trim s.settings.capture.swingLimit o with
    | some f =>
      let t := { s.wlc.tare with accepted := s.wlc.tare.accepted + 1, sum := s.wlc.tare.sum + f }
      let s1 := s.setWlc { s.wlc with tare := t }
      if 32 ≤ t.accepted then finishTare h s1 else s1
    | none =>
      let t := { s.wlc.tare with rejected := s.wlc.tare.rejected + 1 }
      let s1 := s.setWlc { s.wlc with tare := t }
      if 64 ≤ t.rejected then failTare .unsteady s1 else s1
  else s

/-! ### Recovery -/

/-- The entries of the history that count at a departure (R34). -/
def recentEntries (now : Nat) (history : List Nat) : List Nat := history.filter fun t => now - t < historyTime

/-- Entry to RECOVERING: the time joins the history, the lines are released and read 1 ms later (R33 step 1, R34). -/
def enterRecovering (s : State) : State :=
  linkLeft (s.setWlc { s.wlc.abandon with
    state := .recovering
    history := ringPush 2 s.wlc.history s.now
    activity := .lineRelease (s.now + lineTime) })

/-- The departure from RUNNING after three failed answers: RECOVERING, or FAILED as Unstable (R28, R34). -/
def recoveryDecision (s : State) : State :=
  if (recentEntries s.now s.wlc.history).length + 1 < 3 then enterRecovering s else enterFailed .unstable s

/-- The sample is taken by the engine and by a running tare; then the third consecutive failure leaves RUNNING (R28, R31,
R61). -/
def pollCompleted (h : HeadIdentity) (number began : Nat) (o : PollOutcome) (s : State) : State :=
  let s1 := publishSample number began o s
  let s2 := match s1.wlc.latest with
    | some x => engineSample x s1
    | none => s1
  let s3 := tareSample h o s2
  if 3 ≤ s3.wlc.failures then recoveryDecision s3 else s3

/-- A poll completes: with a complete answer inside the 3 ms, or as MISSING at their expiry; an answer after them is
ignored (R28, log entry 24). -/
def pollEnded (answer : Option SampleAnswer) (s : State) : State :=
  match s.wlc.activity, s.wlc.identity with
  | .polling number began, some h =>
    match answer with
    | some a =>
      if s.now ≤ began + answerTime then pollCompleted h number began (answerOutcome h s.trimInForce a) s
      else pollCompleted h number began .missing s
    | none => if began + answerTime ≤ s.now then pollCompleted h number began .missing s else s
  | _, _ => s

/-- Meaning of POLL_COMPLETION (R28, R30 to R32, R34, R40, R56). -/
def execPollCompletion (dt : Nat) (answer : Option SampleAnswer) (s : State) : Host.Outcome State Fault Refusal :=
  onSupply dt s (pollEnded answer)

/-- Clock pulse `k` is sent, 1 ms long (R33 step 3). -/
def sendPulse (k : Nat) (s : State) : State :=
  s.setWlc { s.wlc with activity := .pulsing k (s.now + lineTime), sent := [.clockPulse] }

/-- The released lines are read (R33 steps 1 to 4). -/
def linesRead (clock data : Bool) (s : State) : State :=
  match s.wlc.activity with
  | .lineRelease due =>
    if due ≤ s.now then
      if !clock then enterFailed .stuckClock s
      else if data then enterIdentifying [] s
      else sendPulse 1 s
    else s
  | _ => s

/-- Meaning of RECOVERY_LINE_READ (R33). -/
def execRecoveryLineRead (dt : Nat) (clock data : Bool) (s : State) : Host.Outcome State Fault Refusal :=
  onSupply dt s (linesRead clock data)

/-- A clock pulse ends and the data line is read: high, the end marker is sent and the link goes to IDENTIFYING; low after
the ninth pulse, it goes to FAILED; else the next pulse follows (R33 step 3). -/
def pulseEnded (data : Bool) (s : State) : State :=
  match s.wlc.activity with
  | .pulsing pulse due =>
    if due ≤ s.now then
      if data then enterIdentifying [.endMarker] s
      else if 9 ≤ pulse then enterFailed .stuckData s
      else sendPulse (pulse + 1) s
    else s
  | _ => s

/-- Meaning of CLOCK_PULSE_END (R33). -/
def execClockPulseEnd (dt : Nat) (data : Bool) (s : State) : Host.Outcome State Fault Refusal :=
  onSupply dt s (pulseEnded data)

end Sys2Proof.Machine
end

