-- ==== Sys2Proof/Machine/Operands.lean ====
section
/-! DEFINITION. Sys2Proof/Machine/Operands.lean: the operands of the requests: the decoding of a request's field bytes by
the conventions of R181. A payload decodes when it holds exactly the bytes its fields need, no mask bit beyond its optional
fields is set, and every enumerated value names a listed value; numbers outside their range still decode. -/

namespace Sys2Proof.Machine

open Sys2Proof

/-- A reader of field bytes: the value and the bytes left, or none. -/
abbrev Reader := StateT (List Byte) Option

/-- One unsigned byte. -/
def readU8 : Reader Nat := fun bytes =>
  match bytes with
  | b :: rest => some (b.toNat, rest)
  | [] => none

/-- Two bytes, unsigned, most significant first. -/
def readU16 : Reader Nat := fun bytes =>
  match bytes with
  | a :: b :: rest => some (natOfBytes [a, b], rest)
  | _ => none

/-- Two bytes of two's complement, most significant first. -/
def readI16 : Reader Int := fun bytes =>
  match bytes with
  | a :: b :: rest => some (intOfBytes [a, b], rest)
  | _ => none

/-- Four bytes, unsigned, most significant first. -/
def readU32 : Reader Nat := fun bytes =>
  match bytes with
  | a :: b :: c :: d :: rest => some (natOfBytes [a, b, c, d], rest)
  | _ => none

/-- An enumerated value: one byte, numbered from 0 in the order listed. -/
def readEnum {α : Type} (values : List α) : Reader α := fun bytes =>
  match bytes with
  | b :: rest => (values[b.toNat]?).map fun v => (v, rest)
  | [] => none

/-- A presence mask for `n` optional fields: one byte for up to 8, two for up to 16, no bit beyond them. DESIGN CHOICE: of
two bytes the first holds bits 8..15 (log entry 38). -/
def readMask (n : Nat) : Reader Nat := do
  let m ← if n ≤ 8 then readU8 else readU16
  if m < 2 ^ n then pure m else failure

/-- The optional field of mask bit `k`. -/
def readOpt {α : Type} (mask k : Nat) (field : Reader α) : Reader (Option α) :=
  if mask.testBit k then some <$> field else pure none

/-- `n` fields of one shape. -/
def readMany {α : Type} (field : Reader α) : Nat → Reader (List α)
  | 0 => pure []
  | n + 1 => do
    let x ← field
    let xs ← readMany field n
    pure (x :: xs)

/-- `k` optional fields of one shape, from mask bit `at_` on. -/
def readOpts {α : Type} (mask : Nat) (field : Reader α) : Nat → Nat → Reader (List (Option α))
  | _, 0 => pure []
  | at_, n + 1 => do
    let x ← readOpt mask at_ field
    let xs ← readOpts mask field (at_ + 1) n
    pure (x :: xs)

/-- The fields decode when the reader takes them all. -/
def decodeAll {α : Type} (r : Reader α) (bytes : List Byte) : Option α :=
  match r bytes with
  | some (x, []) => some x
  | _ => none

/-- A setting of on or off, listed in that order (section 5.1, section 3.9, log entry 15). -/
def readOnOff : Reader Bool := readEnum [true, false]

/-! ### The requests with fields -/

/-- No fields. -/
def readNothing : Reader Unit := pure ()

/-- Drive (R135). -/
structure DriveRequest where
  demands : List Int
  enable : Nat
  halt : Nat
deriving DecidableEq, Repr

def readDrive : Reader DriveRequest := do
  let demands ← readMany readI16 6
  let enable ← readU8
  let halt ← readU8
  pure { demands, enable, halt }

/-- Change config (R187). -/
structure ChangeConfigRequest where
  enables : Option SourceSet
  mode : Option AckMode
deriving DecidableEq, Repr

/-- A set of sources: two bytes (R181). DESIGN CHOICE: the first holds bits 8..15 (log entry 38). -/
def readSources : Reader SourceSet := (BitVec.ofNat 16 ·) <$> readU16

def readChangeConfig : Reader ChangeConfigRequest := do
  let m ← readMask 2
  let enables ← readOpt m 0 readSources
  let mode ← readOpt m 1 (readEnum [.clearOnRead, .explicit])
  pure { enables, mode }

/-- Section config (R151): the section number and sixteen optional settings. -/
structure SectionConfigRequest where
  sec : Nat
  mode : Option SectionMode
  upStep : Option Nat
  downStep : Option Nat
  stopMode : Option StopMode
  classA : Option MomentClass
  classB : Option MomentClass
  range : Option ProfileRange
  startIndex : Option Nat
  stepDivider : Option Nat
  endMode : Option EndMode
  deadTime : Option Nat
  iMin : Option Nat
  iMax : Option Nat
  expiryTime : Option Nat
  idleTime : Option Nat
  settleTime : Option Nat
deriving DecidableEq, Repr

def readSectionConfig : Reader SectionConfigRequest := do
  let sec ← readU8
  let m ← readMask 16
  let mode ← readOpt m 0 (readEnum [.regular, .profile])
  let upStep ← readOpt m 1 readU16
  let downStep ← readOpt m 2 readU16
  let stopMode ← readOpt m 3 (readEnum [.soft, .hard])
  let classA ← readOpt m 4 (readEnum [.raising, .neutral])
  let classB ← readOpt m 5 (readEnum [.raising, .neutral])
  let range ← readOpt m 6 (readEnum [.full, .low, .high])
  let startIndex ← readOpt m 7 readU8
  let stepDivider ← readOpt m 8 readU8
  let endMode ← readOpt m 9 (readEnum [.autostop, .continuous])
  let deadTime ← readOpt m 10 readU8
  let iMin ← readOpt m 11 readU16
  let iMax ← readOpt m 12 readU16
  let expiryTime ← readOpt m 13 readU16
  let idleTime ← readOpt m 14 readU16
  let settleTime ← readOpt m 15 readU16
  pure { sec, mode, upStep, downStep, stopMode, classA, classB, range, startIndex, stepDivider, endMode, deadTime, iMin,
         iMax, expiryTime, idleTime, settleTime }

/-- Profile write (R153): the table number and sixteen entries, present together or absent together. -/
structure ProfileRequest where
  table : Nat
  entries : Option (List Nat)
deriving DecidableEq, Repr

def readProfile : Reader ProfileRequest := do
  let table ← readU8
  let m ← readMask 1
  let entries ← readOpt m 0 (readMany readU16 16)
  pure { table, entries }

/-- Capture config (R71). -/
structure CaptureRequest where
  gripThreshold : Option Nat
  holdTime : Option Nat
  autoArm : Option Bool
  liftThreshold : Option Nat
  budget : Option Nat
  maxExtensions : Option Nat
  extensionSize : Option Nat
  rejectLimit : Option Nat
  swingLimit : Option Nat
  spreadLimit : Option Nat
  suspendTime : Option Nat
deriving DecidableEq, Repr

def readCapture : Reader CaptureRequest := do
  let m ← readMask 11
  let gripThreshold ← readOpt m 0 readU16
  let holdTime ← readOpt m 1 readU16
  let autoArm ← readOpt m 2 readOnOff
  let liftThreshold ← readOpt m 3 readU16
  let budget ← readOpt m 4 readU8
  let maxExtensions ← readOpt m 5 readU8
  let extensionSize ← readOpt m 6 readU8
  let rejectLimit ← readOpt m 7 readU8
  let swingLimit ← readOpt m 8 readU8
  let spreadLimit ← readOpt m 9 readU16
  let suspendTime ← readOpt m 10 readU16
  pure { gripThreshold, holdTime, autoArm, liftThreshold, budget, maxExtensions, extensionSize, rejectLimit, swingLimit,
         spreadLimit, suspendTime }

/-- One optional number: Assortment (R87). -/
def readOptU8 : Reader (Option Nat) := do
  let m ← readMask 1
  readOpt m 0 readU8

/-- One optional number: Payload limit (R97). -/
def readOptU16 : Reader (Option Nat) := do
  let m ← readMask 1
  readOpt m 0 readU16

/-- Read lifts (R92): from and count. -/
structure ReadLiftsRequest where
  from_ : Nat
  count : Nat
deriving DecidableEq, Repr

def readReadLifts : Reader ReadLiftsRequest := do
  let from_ ← readU16
  let count ← readU8
  pure { from_, count }

/-- Trip selector of Read totals (R93). -/
inductive TripSelector
  | current | closed
deriving DecidableEq, Repr

/-- Read totals (R93). -/
structure ReadTotalsRequest where
  selector : TripSelector
  first : Nat
  count : Nat
deriving DecidableEq, Repr

def readReadTotals : Reader ReadTotalsRequest := do
  let selector ← readEnum [.current, .closed]
  let first ← readU8
  let count ← readU8
  pure { selector, first, count }

/-- Correct (R90). -/
structure CorrectRequest where
  number : Nat
  correction : Int
deriving DecidableEq, Repr

def readCorrect : Reader CorrectRequest := do
  let number ← readU16
  let correction ← readI16
  pure { number, correction }

/-- Reassign (R91). -/
structure ReassignRequest where
  number : Nat
  assortment : Nat
deriving DecidableEq, Repr

def readReassign : Reader ReassignRequest := do
  let number ← readU16
  let assortment ← readU8
  pure { number, assortment }

/-- Manual lift (R88). -/
structure ManualRequest where
  direction : LiftDirection
  assortment : Nat
  mass : Option Nat
deriving DecidableEq, Repr

def readManual : Reader ManualRequest := do
  let direction ← readEnum [.load, .unload]
  let assortment ← readU8
  let m ← readMask 1
  let mass ← readOpt m 0 readU16
  pure { direction, assortment, mass }

/-- Zone write (R110). -/
structure ZoneWriteRequest where
  zone : Nat
  kind : Option ZoneKind
  chassis : Option Chassis
  slewStart : Option Int
  slewStop : Option Int
  reachMin : Option Nat
  reachMax : Option Nat
  slow : Option Nat
  guard : Option Nat
deriving DecidableEq, Repr

def readZoneWrite : Reader ZoneWriteRequest := do
  let zone ← readU8
  let m ← readMask 8
  let kind ← readOpt m 0 (readEnum [.bunk, .slow, .stop])
  let chassis ← readOpt m 1 (readEnum [.rear, .front])
  let slewStart ← readOpt m 2 readI16
  let slewStop ← readOpt m 3 readI16
  let reachMin ← readOpt m 4 readU16
  let reachMax ← readOpt m 5 readU16
  let slow ← readOpt m 6 readU16
  let guard ← readOpt m 7 readU16
  pure { zone, kind, chassis, slewStart, slewStop, reachMin, reachMax, slow, guard }

/-- Zone enable (R111, R112). -/
structure ZoneEnableRequest where
  zone : Nat
  enable : Bool
deriving DecidableEq, Repr

def readZoneEnable : Reader ZoneEnableRequest := do
  let zone ← readU8
  let enable ← readOnOff
  pure { zone, enable }

/-- Limiter config (R131). -/
structure LimiterRequest where
  warnOn : Option Nat
  limitOn : Option Nat
  hyst : Option Nat
  derate : Option Nat
  pistonArea : Option Nat
  rodArea : Option Nat
  lever : Option Nat
deriving DecidableEq, Repr

def readLimiter : Reader LimiterRequest := do
  let m ← readMask 7
  let warnOn ← readOpt m 0 readU16
  let limitOn ← readOpt m 1 readU16
  let hyst ← readOpt m 2 readU8
  let derate ← readOpt m 3 readU16
  let pistonArea ← readOpt m 4 readU16
  let rodArea ← readOpt m 5 readU16
  let lever ← readOpt m 6 readU16
  pure { warnOn, limitOn, hyst, derate, pistonArea, rodArea, lever }

/-- Rated write (R132): nine optional entries. -/
def readRated : Reader (List (Option Nat)) := do
  let m ← readMask 9
  readOpts m readU32 0 9

/-- Calibrate (R38). -/
structure CalibrateRequest where
  trim : Option Nat
  autoPower : Option Bool
deriving DecidableEq, Repr

def readCalibrate : Reader CalibrateRequest := do
  let m ← readMask 2
  let trim ← readOpt m 0 readU16
  let autoPower ← readOpt m 1 readOnOff
  pure { trim, autoPower }

/-- Two bytes of a channel value. Where the range of the channel holds no negative value the number is unsigned; a pattern
with its top bit set lies outside every channel's range under either reading, so the reading does not matter (R16,
R181). -/
def readChannelValue : Reader Int := readI16

/-- The calibration group of Channel calibration (R16). -/
def readCal : Reader ChannelCal := do
  let rawLo ← readU16
  let rawHi ← readU16
  let valLo ← readChannelValue
  let valHi ← readChannelValue
  pure { rawLo, rawHi, valLo, valHi }

/-- Channel calibration (R16): the channel number and one group of four fields. -/
structure ChannelRequest where
  channel : Nat
  cal : Option ChannelCal
deriving DecidableEq, Repr

def readChannel : Reader ChannelRequest := do
  let channel ← readU8
  let m ← readMask 1
  let cal ← readOpt m 0 readCal
  pure { channel, cal }

/-- Geometry config (R17). -/
structure GeometryRequest where
  pillar : Option Nat
  mainLen : Option Nat
  outerLen : Option Nat
deriving DecidableEq, Repr

def readGeometry : Reader GeometryRequest := do
  let m ← readMask 3
  let pillar ← readOpt m 0 readU16
  let mainLen ← readOpt m 1 readU16
  let outerLen ← readOpt m 2 readU16
  pure { pillar, mainLen, outerLen }

/-- Restart (R199): the kind; a byte that names neither does not decode. -/
def readRestart : Reader RestartKind := readEnum [.warm, .cold]

end Sys2Proof.Machine
end

