-- ==== Sys2Proof/Machine/Requests.lean ====
section
/-! DEFINITION. Sys2Proof/Machine/Requests.lean: the taking of a request by the Cab Link Port (R180): one shared operation
that takes the oldest inbound frame, decodes its fields, hands them to the owner and appends the reply; and the codes of
section 9.5. -/

namespace Sys2Proof.Machine

open Sys2Proof

/-- Codes of the request kinds (section 9.5). -/
def requestKinds : List Byte :=
  [0x01#8, 0x02#8, 0x03#8, 0x04#8, 0x10#8, 0x11#8, 0x12#8, 0x14#8, 0x15#8, 0x20#8, 0x21#8, 0x22#8, 0x30#8, 0x31#8,
   0x32#8, 0x33#8, 0x34#8, 0x35#8, 0x36#8, 0x37#8, 0x38#8, 0x40#8, 0x41#8, 0x42#8, 0x48#8, 0x49#8, 0x50#8, 0x51#8,
   0x52#8, 0x53#8, 0x58#8, 0x59#8, 0x60#8, 0x61#8]

/-- The kind code of the Restart request (section 9.5). -/
def restartKindCode : Byte := 0x61#8

/-- What an owner answers: the state after its action, the result code and the reply fields (R180 step 4). -/
structure Answer where
  state : State
  result : ResultCode
  body : ReplyBody
deriving DecidableEq, Repr

/-- A refusal without fields that changes nothing (R180, 9.5). -/
def refuse (code : ResultCode) (s : State) : Answer := { state := s, result := code, body := .none }

/-- Done with these fields. -/
def answerDone (s : State) (body : ReplyBody) : Answer := { state := s, result := .done, body := body }

/-- The CLP takes a frame when the outbound queue has room and no restart is pending (R180, R190). -/
def State.canTake (s : State) : Bool := s.clp.outbound.length < outboundMax && s.clp.restart.isNone

/-- The frame leaves the inbound queue and its reply takes its place at the end of the outbound queue, so that the reports
the owner raises stand behind it (R180 steps 1 and 5, R183); the reply's result and fields are filled in by `putReply`. -/
def takeFrame (f : InFrame) (rest : List InFrame) (s : State) : State :=
  s.setClp { s.clp with inbound := rest, outbound := s.clp.outbound ++ [.reply f.kind f.tag .done .none] }

/-- The reply of a taken frame, at its place in the outbound queue (R180 step 5). -/
def putReply (place : Nat) (f : InFrame) (a : Answer) : State :=
  a.state.setClp { a.state.clp with
    outbound := a.state.clp.outbound.set place (.reply f.kind f.tag a.result a.body) }

/-- Steps 3 and 4 of R180: the fields are decoded and the owner takes the request; a payload that does not decode is
answered BadField without reaching it. -/
def answerFrame {α : Type} (reader : Reader α) (owner : α → State → Answer) (f : InFrame) (s : State) : Answer :=
  match decodeAll reader f.fields with
  | some x => owner x s
  | none => refuse .badField s

/-- The taking of a request of one kind: with an oldest inbound frame of that kind and room, R180; otherwise the event
cannot take place and nothing changes (log entry 3). -/
def takeRequest {α : Type} (kind : Byte) (reader : Reader α) (owner : α → State → Answer) (s : State) : State :=
  match s.clp.inbound with
  | f :: rest =>
    if f.kind = kind && s.canTake then
      putReply s.clp.outbound.length f (answerFrame reader owner f (takeFrame f rest s))
    else s
  | [] => s

/-- The meaning of a request row: time passes, then the request is taken. -/
def execRequest {α : Type} (dt : Nat) (kind : Byte) (reader : Reader α) (owner : α → State → Answer) (s : State) :
    Host.Outcome State Fault Refusal :=
  onSupply dt s (takeRequest kind reader owner)

/-- A number that names an entry of a table of `n`. -/
def finOf (n k : Nat) : Option (Fin n) := if h : k < n then some ⟨k, h⟩ else none

/-- Meaning of UNKNOWN_KIND: a frame whose kind names no request is answered UnknownKind, with no fields (R180 step 2). -/
def unknownTaken (s : State) : State :=
  match s.clp.inbound with
  | f :: rest =>
    if !requestKinds.contains f.kind && s.canTake then
      putReply s.clp.outbound.length f (refuse .unknownKind (takeFrame f rest s))
    else s
  | [] => s

/-- Meaning of UNKNOWN_KIND (R180). -/
def execUnknownKind (dt : Nat) (s : State) : Host.Outcome State Fault Refusal := onSupply dt s unknownTaken

end Sys2Proof.Machine
end

