-- ==== Sys2Proof/Machine/Encode.lean ====
section
/-! DEFINITION. Sys2Proof/Machine/Encode.lean: the encoding of replies and reports to the bytes of a frame (R176, R178,
R181). Required fields come first in the order of the owner's rule, then the presence mask, then the optional fields; an
enumerated value is numbered by the order of its listing, which is the order of its type's constructors (log entries 15 and
16). -/

namespace Sys2Proof.Machine

open Sys2Proof

/-! ### Fields -/

/-- An enumerated value, by its place in its listing. -/
def enumByte (place : Nat) : List Byte := natBytes 1 place

/-- A lone flag: bit 0 set when it is set (log entry 15). -/
def flagByte (b : Bool) : List Byte := natBytes 1 b.toNat

/-- A value listed as on or off, yes or no, PRESENT or ABSENT: 0 for the first (log entry 15). -/
def firstByte (b : Bool) : List Byte := enumByte (!b).toNat

/-- The presence mask of optional fields, bit k for the k-th. -/
def maskValue (fields : List (Option (List Byte))) : Nat := fields.foldr (fun f m => 2 * m + f.isSome.toNat) 0

/-- Optional fields behind their presence mask: one byte for up to 8, two for up to 16. DESIGN CHOICE: R181 gives a byte
order for numbers only; a mask of two bytes is sent bits 8..15 first (log entry 38). -/
def optionals (fields : List (Option (List Byte))) : List Byte :=
  natBytes (if fields.length ≤ 8 then 1 else 2) (maskValue fields) ++ (fields.map fun f => f.getD []).flatten

/-- A set of sources (R181). DESIGN CHOICE: R181 gives a byte order for numbers only; the byte of bits 8..15 is sent first
(log entry 38). -/
def sourceBytes (set : SourceSet) : List Byte := bytesOf16 set

/-- A set of lift flags: bit 0 Extended, bit 1 BelowTare, bit 2 Manual, bit 3 GeometryUnknown (R77). DESIGN CHOICE: one
numbering in every record, although R65 and R70 list only some of the four (log entry 43). -/
def liftFlagsByte (f : LiftFlags) : List Byte :=
  natBytes 1 (f.extended.toNat + 2 * f.belowTare.toNat + 4 * f.manual.toNat + 8 * f.geometryUnknown.toNat)

/-- The cause of a limiter state (section 6.6). -/
def LimiterState.cause : LimiterState → Option LimitCause
  | .limit c => some c
  | .normal | .warn => none

/-! ### Records -/

/-- A lift record (R77). -/
def encodeLift (r : LiftRecord) : List Byte :=
  natBytes 2 r.number ++ enumByte r.direction.ctorIdx ++ natBytes 1 r.assortment.val ++ liftFlagsByte r.flags ++
    optionals [r.mass.map (natBytes 2), r.correction.map (intBytes 2)]

/-- The ten totals of an entry (R78). -/
def encodeEntry (e : TallyEntry) : List Byte :=
  natBytes 4 e.loads.count ++ natBytes 4 e.loads.weighed ++ natBytes 4 e.loads.mass ++
    natBytes 4 e.unloads.count ++ natBytes 4 e.unloads.weighed ++ natBytes 4 e.unloads.mass ++
    natBytes 4 e.loads.unlisted ++ natBytes 4 e.loads.unlistedMass ++
    natBytes 4 e.unloads.unlisted ++ natBytes 4 e.unloads.unlistedMass

/-- A filing answer (R83). -/
def encodeFiling (a : FilingAnswer) : List Byte :=
  natBytes 2 a.number ++ firstByte a.listed ++ enumByte a.direction.ctorIdx ++ natBytes 1 a.assortment.val ++
    liftFlagsByte a.flags ++ optionals [a.mass.map (natBytes 2)]

/-- The masses and forces of a weighed capture (R65). -/
def encodeWeighed (m : WeighedMass) : List Byte :=
  natBytes 2 m.net ++ natBytes 2 m.gross ++ natBytes 2 m.mean ++ natBytes 2 m.tareUsed

/-- The reason of an unweighed capture. -/
def CaptureOutcome.reason : CaptureOutcome → Option EndReason
  | .weighed _ => none
  | .unweighed r => some r

/-- The masses of a weighed capture. -/
def CaptureOutcome.masses : CaptureOutcome → Option WeighedMass
  | .weighed m => some m
  | .unweighed _ => none

/-- A pending lift (R65). -/
def encodePending (p : PendingLift) : List Byte :=
  natBytes 2 p.grip ++ enumByte p.outcome.ctorIdx ++ natBytes 1 p.n ++
    liftFlagsByte { extended := p.extended, belowTare := p.belowTare, manual := false, geometryUnknown := false } ++
    natBytes 2 p.accepted ++ natBytes 1 p.rejects ++ natBytes 1 p.extUsed ++
    optionals
      [p.outcome.reason.map fun r => enumByte r.ctorIdx, p.outcome.masses.map encodeWeighed, p.spread.map (natBytes 2)]

/-- The engine snapshot (R73). -/
def encodeSnapshot (e : EngineSnapshot) : List Byte :=
  enumByte e.state.ctorIdx ++ flagByte e.preArm ++ firstByte e.autoArm ++ natBytes 2 e.grip ++ flagByte e.validityRead ++
    optionals
      [e.origin.map fun m => enumByte m.ctorIdx,
       e.capture.map fun c =>
         natBytes 1 c.remaining ++ natBytes 1 c.extLeft ++ natBytes 1 c.rejects ++ natBytes 2 c.accepted ++
           natBytes 1 c.windowCount ++ flagByte c.extended,
       e.suspendLeft.map (natBytes 2),
       e.held.map encodePending]

/-- The capture settings (section 3.9). -/
def encodeCapture (c : CaptureSettings) : List Byte :=
  natBytes 2 c.gripThreshold ++ natBytes 2 c.holdTime ++ firstByte c.autoArm ++ natBytes 2 c.liftThreshold ++
    natBytes 1 c.budget ++ natBytes 1 c.maxExtensions ++ natBytes 1 c.extensionSize ++ natBytes 1 c.rejectLimit ++
    natBytes 1 c.swingLimit ++ natBytes 2 c.spreadLimit ++ natBytes 2 c.suspendTime

/-- The calibration record (section 2.7). -/
def encodeCalRecord (c : CalRecord) : List Byte :=
  natBytes 2 c.trim ++ natBytes 2 c.tare ++ firstByte c.tareDone ++ optionals [c.bound.map (natBytes 4)]

/-- The head identity (R24). -/
def encodeIdentity (h : HeadIdentity) : List Byte :=
  natBytes 4 h.serial ++ natBytes 2 h.rating ++ natBytes 2 h.zero ++ natBytes 2 h.scale

/-- What a GOOD outcome carries (R31); a force of −5 000..+40 000 needs four bytes. -/
def encodeGood (d : GoodSample) : List Byte :=
  natBytes 2 d.count ++ natBytes 2 d.swing ++ enumByte d.status.ctorIdx ++ intBytes 4 d.force ++ flagByte d.clamped

/-- The fields of a GOOD outcome. -/
def PollOutcome.good? : PollOutcome → Option GoodSample
  | .good d => some d
  | .corrupt | .missing => none

/-- A sample record (R31). -/
def encodeSample (x : Sample) : List Byte :=
  natBytes 2 x.poll ++ enumByte x.outcome.ctorIdx ++ flagByte x.forceUsable ++ flagByte x.linkForce ++
    optionals [x.outcome.good?.map encodeGood]

/-- The reason of a FAILED tare. -/
def TareState.reason : TareState → Option TareReason
  | .failed r => some r
  | .none | .running | .done _ => .none

/-- The result of a DONE tare, kg. -/
def TareState.result : TareState → Option Nat
  | .done kg => some kg
  | .none | .running | .failed _ => .none

/-- The Link status reply (R43). -/
def encodeLinkStatus (r : LinkStatusReply) : List Byte :=
  enumByte r.state.ctorIdx ++ enumByte r.cause.ctorIdx ++ firstByte r.detect ++ firstByte r.supply ++
    firstByte r.autoPower ++ encodeCalRecord r.calRecord ++ flagByte r.valid ++ natBytes 2 r.trimInForce ++
    enumByte r.tare.ctorIdx ++ natBytes 1 r.accepted ++ natBytes 1 r.rejected ++ natBytes 1 r.failures ++
    natBytes 1 r.historyCount ++ natBytes 1 r.ringCount ++
    optionals
      [r.identity.map encodeIdentity, r.tare.reason.map fun x => enumByte x.ctorIdx, r.tare.result.map (natBytes 2),
       r.latest.map encodeSample]

/-- The eight stored fields of a zone after its enable (section 5.1). -/
def encodeZoneFields (z : Zone) : List Byte :=
  enumByte z.kind.ctorIdx ++ enumByte z.chassis.ctorIdx ++ intBytes 2 z.slewStart ++ intBytes 2 z.slewStop ++
    natBytes 2 z.reachMin ++ natBytes 2 z.reachMax ++ natBytes 2 z.slow ++ natBytes 2 z.guard

/-- The evaluation summary: bunk membership, slow factor, slew factors, intrusion flag (R100). -/
def encodeSummary (bunk : BunkMembership) (slow slewA slewB : Nat) (intrusion : Bool) : List Byte :=
  enumByte bunk.ctorIdx ++ natBytes 2 slow ++ natBytes 2 slewA ++ natBytes 2 slewB ++ flagByte intrusion

/-- The Zone read reply (R113). -/
def encodeZoneRead (r : ZoneReadReply) : List Byte :=
  firstByte r.zone.enable ++ encodeZoneFields r.zone ++ enumByte r.membership.ctorIdx ++ intBytes 2 r.slew ++
    natBytes 2 r.reach ++ flagByte r.tipValid ++ encodeSummary r.bunk r.slow r.slewA r.slewB r.intrusion ++
    optionals
      [r.bounds.map fun b => intBytes 2 b.1 ++ intBytes 2 b.2, r.armed.map flagByte,
       r.guard.map fun g => enumByte g.side.ctorIdx ++ natBytes 2 g.delta ++ natBytes 2 g.factor]

/-- The figures of a scan with a moment, after the tip force (R130). -/
def encodeFigures (f : MomentFigures) : List Byte :=
  natBytes 4 f.moment ++ intBytes 2 f.tilt ++ natBytes 4 f.rated.toNat ++ natBytes 2 f.u ++
    natBytes 2 f.warnLevel.toNat ++ natBytes 2 f.limitLevel.toNat

/-- The limiter record (R130); a tip force of −5 000..+40 000 needs four bytes. -/
def encodeLimiter (r : LimiterRecord) : List Byte :=
  enumByte r.source.ctorIdx ++ enumByte r.state.ctorIdx ++ natBytes 2 r.factor ++
    optionals
      [(r.figures.bind MomentFigures.tip).map fun t => intBytes 4 t.1 ++ natBytes 1 t.2, r.figures.map encodeFigures,
       r.state.cause.map fun c => enumByte c.ctorIdx]

/-- The limiter settings (R131). -/
def encodeLimiterSettings (c : LimiterSettings) : List Byte :=
  natBytes 2 c.warnOn ++ natBytes 2 c.limitOn ++ natBytes 1 c.hyst ++ natBytes 2 c.derate ++ natBytes 2 c.pistonArea ++
    natBytes 2 c.rodArea ++ natBytes 2 c.lever

/-- State and value of a channel (R15). -/
def encodeChannel (v : ChannelView) : List Byte := enumByte v.state.ctorIdx ++ intBytes 2 v.value

/-- The scan record (R15). -/
def encodeScan (r : ScanRecord) : List Byte :=
  (r.channels.toList.map encodeChannel).flatten ++ intBytes 2 r.slew ++ natBytes 2 r.reach ++ flagByte r.tipValid ++
    intBytes 2 r.artic ++ intBytes 2 r.tilt ++ flagByte r.substituted

/-- The section record (R150). -/
def encodeSectionRecord (r : SectionRecord) : List Byte :=
  intBytes 2 r.held ++ flagByte r.expired ++ flagByte r.latch ++ enumByte r.mode.ctorIdx ++ intBytes 2 r.t0 ++
    intBytes 2 r.target ++ intBytes 2 r.output ++ enumByte r.requested.ctorIdx ++ flagByte r.running ++
    natBytes 1 r.index ++ natBytes 1 r.divider ++ optionals [r.timeToExpiry.map (natBytes 2)]

/-- The fault record, the measured current absent for "trip" (R163). -/
def encodeFault (f : FaultRecord) : List Byte :=
  enumByte f.cause.ctorIdx ++ enumByte f.coil.ctorIdx ++ natBytes 2 f.setpoint ++
    optionals [f.measured.map (natBytes Config.measuredCurrentBytes)]

/-- The section part of the coil record (R172). -/
def encodeCoil (c : CdsSection) : List Byte :=
  enumByte c.state.ctorIdx ++ intBytes 2 c.output ++ enumByte c.active.ctorIdx ++ natBytes 2 c.setpoint ++
    natBytes Config.measuredCurrentBytes c.measured ++ natBytes 1 c.dead ++ natBytes 1 c.opens ++
    optionals [c.fault.map encodeFault]

/-- The settings of a section and the common settings, in the order of section 7.7 (R151). -/
def encodeSectionSettings (c : SectionSettings) (m : CommonSettings) : List Byte :=
  enumByte c.mode.ctorIdx ++ natBytes 2 c.upStep ++ natBytes 2 c.downStep ++ enumByte c.stopMode.ctorIdx ++
    enumByte c.classA.ctorIdx ++ enumByte c.classB.ctorIdx ++ enumByte c.range.ctorIdx ++ natBytes 1 c.startIndex ++
    natBytes 1 c.stepDivider ++ enumByte c.endMode.ctorIdx ++ natBytes 1 c.deadTime ++ natBytes 2 c.iMin ++
    natBytes 2 c.iMax ++ natBytes 2 m.expiryTime ++ natBytes 2 m.idleTime ++ natBytes 2 m.settleTime

/-- The Drive reply (R184). -/
def encodeDrive (r : DriveReply) : List Byte :=
  (r.sections.toList.map fun x => intBytes 2 x.1 ++ enumByte x.2.ctorIdx).flatten ++ enumByte r.supply.ctorIdx ++
    enumByte r.limiter.ctorIdx ++ enumByte r.bunk.ctorIdx ++ enumByte r.engine.ctorIdx ++
    optionals [r.limiter.cause.map fun c => enumByte c.ctorIdx, r.u.map (natBytes 2)]

/-- Trip figures (R93). -/
def encodeTripFigures : TripFigures → List Byte
  | .current f =>
    natBytes 2 f.number ++ natBytes 2 f.counter ++ natBytes 1 f.assortment.val ++ flagByte f.lastUnlisted ++
      natBytes 1 f.listLength ++ intBytes 8 f.estimate ++ natBytes 2 f.payloadLimit ++ natBytes 2 f.warnLevel ++
      enumByte f.payload.ctorIdx
  | .closed f =>
    natBytes 2 f.number ++ natBytes 2 f.counter ++ natBytes 1 f.listLength ++ intBytes 8 f.estimate ++
      natBytes 2 f.payloadLimit

/-- Status page 0; of a tare it carries the state alone (R185), and the settle and idle times left of the coil record stand
behind the lock cause (R172, log entry 40). -/
def encodeGeneral (p : GeneralPage) : List Byte :=
  enumByte p.lastRestart.ctorIdx ++ enumByte p.supply.ctorIdx ++ enumByte p.closed.toNat ++
    enumByte p.limiter.ctorIdx ++ flagByte p.tipValid ++ encodeSummary p.bunk p.slow p.slewA p.slewB p.intrusion ++
    enumByte p.engine.ctorIdx ++ enumByte p.link.ctorIdx ++ enumByte p.cause.ctorIdx ++ flagByte p.valid ++
    enumByte p.tare.ctorIdx ++ natBytes 2 p.tripNumber ++ natBytes 2 p.counter ++ natBytes 1 p.listLength ++
    intBytes 8 p.estimate ++ enumByte p.payload.ctorIdx ++ enumByte p.store.ctorIdx ++ sourceBytes p.changeSet ++
    sourceBytes p.enables ++ enumByte p.ackMode.ctorIdx ++ natBytes 1 p.inboundCount ++ natBytes 1 p.outboundCount ++
    natBytes 2 p.discards.length ++ natBytes 2 p.discards.gap ++ natBytes 2 p.discards.framing ++
    natBytes 2 p.discards.check ++ natBytes 2 p.discards.full ++ natBytes 1 p.reportNumber ++
    optionals
      [p.lockCause.map fun c => enumByte c.ctorIdx, p.settleLeft.map (natBytes 2), p.idleLeft.map (natBytes 4),
       p.limiter.cause.map fun c => enumByte c.ctorIdx, p.u.map (natBytes 2)]

/-- A Status page (R185). -/
def encodePage : StatusPage → List Byte
  | .general p => encodeGeneral p
  | .scan r => encodeScan r
  | .limiter r bunk slow slewA slewB intrusion => encodeLimiter r ++ encodeSummary bunk slow slewA slewB intrusion
  | .sections s => (s.toList.map fun x => encodeSectionRecord x.record ++ encodeCoil x.coil).flatten

/-! ### Replies and reports -/

/-- The fields of a reply (R181). The fault records of a Release reply are six optional fields behind one mask with the lock
cause, DESIGN CHOICE (log entry 39). -/
def encodeBody : ReplyBody → List Byte
  | .none => []
  | .status p => encodePage p
  | .changes set enables mode after =>
    sourceBytes set ++ sourceBytes enables ++ enumByte mode.ctorIdx ++ optionals [after.map sourceBytes]
  | .changeSet set => sourceBytes set
  | .changeConfig enables mode set => sourceBytes enables ++ enumByte mode.ctorIdx ++ sourceBytes set
  | .drive r => encodeDrive r
  | .sectionConfig cfg common record => encodeSectionSettings cfg common ++ encodeSectionRecord record
  | .profile table => (table.toList.map (natBytes 2)).flatten
  | .release supply cause faults =>
    enumByte supply.ctorIdx ++
      optionals ((cause.map fun c => enumByte c.ctorIdx) :: faults.toList.map fun f => f.map encodeFault)
  | .faultClear states supply cause =>
    (states.toList.map fun x => enumByte x.ctorIdx).flatten ++ enumByte supply.ctorIdx ++
      optionals [cause.map fun c => enumByte c.ctorIdx]
  | .snapshot e => encodeSnapshot e
  | .captureConfig cfg e => encodeCapture cfg ++ encodeSnapshot e
  | .assortment a => natBytes 1 a.val
  | .lifts records more listLength counter =>
    natBytes 1 records.length ++ (records.map encodeLift).flatten ++ flagByte more ++ natBytes 1 listLength ++
      natBytes 2 counter
  | .totals entries figures =>
    natBytes 1 entries.length ++ (entries.map encodeEntry).flatten ++ encodeTripFigures figures
  | .lift r => encodeLift r
  | .corrected r oldMass newMass => encodeLift r ++ natBytes 2 oldMass ++ natBytes 2 newMass
  | .filed a => encodeFiling a
  | .tripClosed number counter listLength estimate newNumber =>
    natBytes 2 number ++ natBytes 2 counter ++ natBytes 1 listLength ++ intBytes 8 estimate ++ natBytes 2 newNumber
  | .payload limit warnLevel estimate state =>
    natBytes 2 limit ++ natBytes 2 warnLevel ++ intBytes 8 estimate ++ enumByte state.ctorIdx
  | .zone z => encodeZoneFields z ++ firstByte z.enable
  | .zoneRead r => encodeZoneRead r
  | .limiterConfig cfg r => encodeLimiterSettings cfg ++ encodeLimiter r
  | .rated entries r => (entries.toList.map (natBytes 4)).flatten ++ encodeLimiter r
  | .linkStatus r => encodeLinkStatus r
  | .calibrate c valid autoPower => encodeCalRecord c ++ flagByte valid ++ firstByte autoPower
  | .channel n c v =>
    natBytes 1 n.val ++ natBytes 2 c.rawLo ++ natBytes 2 c.rawHi ++ intBytes 2 c.valLo ++ intBytes 2 c.valHi ++
      encodeChannel v
  | .geometry g reach tipValid =>
    natBytes 2 g.pillar ++ natBytes 2 g.mainLen ++ natBytes 2 g.outerLen ++ natBytes 2 reach ++ flagByte tipValid
  | .store state target sequence => enumByte state.ctorIdx ++ natBytes 1 target.val ++ natBytes 2 sequence

/-- The reason in the capture field of a Lift Filed report (R70). -/
def CaptureSummary.reason : CaptureSummary → Option EndReason
  | .unweighed r => some r
  | .weighed | .none => .none

/-- No lift flags. DESIGN CHOICE: the Lift Filed report always has its flags field and R70 gives it only "as filed", so the
model sends the empty set when nothing was filed: REPOSITION, RETURNED, or turned away by R85 (log entry 43). -/
def noFlags : LiftFlags := { extended := false, belowTare := false, manual := false, geometryUnknown := false }

/-- The fields of a Lift Filed report (R70). -/
def encodeLiftFiled (r : LiftFiledReport) : List Byte :=
  natBytes 2 r.grip ++ enumByte r.origin.ctorIdx ++ enumByte r.drop.ctorIdx ++ enumByte r.disposition.ctorIdx ++
    enumByte r.capture.ctorIdx ++ liftFlagsByte ((r.filed.map FilingAnswer.flags).getD noFlags) ++
    optionals
      [r.capture.reason.map fun x => enumByte x.ctorIdx,
       r.filed.map fun a =>
         natBytes 2 a.number ++ firstByte a.listed ++ enumByte a.direction.ctorIdx ++ natBytes 1 a.assortment.val,
       (r.filed.bind FilingAnswer.mass).map (natBytes 2)]

/-- The fields of a report (section 9.7). -/
def encodeReport : Report → List Byte
  | .weighResult p => encodePending p
  | .liftFiled r => encodeLiftFiled r
  | .change gained set => enumByte gained.bit ++ sourceBytes set

/-- The kind code of a report (section 9.5). -/
def Report.kind : Report → Byte
  | .weighResult _ => 0x81#8
  | .liftFiled _ => 0x82#8
  | .change _ _ => 0x83#8

/-- The kind code of a frame (R176). -/
def OutFrame.kind : OutFrame → Byte
  | .reply kind _ _ _ => kind
  | .report _ r => r.kind

/-- The payload of a frame: tag, result code and fields, or report number and fields (R176, section 9.5). -/
def OutFrame.payload : OutFrame → List Byte
  | .reply _ tag result body => tag :: (enumByte result.ctorIdx ++ encodeBody body)
  | .report number r => natBytes 1 number ++ encodeReport r

/-- The bytes of a frame on the line (R176, R178). -/
def OutFrame.bytes (f : OutFrame) : List Byte := frameBytes f.kind f.payload

end Sys2Proof.Machine
end

