-- ==== Sys2Proof/Machine/CabLink.lean ====
section
/-! DEFINITION. Sys2Proof/Machine/CabLink.lean: the Cab Link Port (chapter 9): the receiver, the transmitter, and the port's
own requests (Status, Read changes, Clear changes, Change config). -/

namespace Sys2Proof.Machine

open Sys2Proof

/-! ### The receiver -/

/-- Reasons to discard a frame in progress (R177). -/
inductive DiscardReason
  | length | gap | framing | check | full
deriving DecidableEq, Repr

/-- A discard count advanced by one, from 65 535 to 0 (R177). -/
def countUp (n : Nat) : Nat := (n + 1) % 65536

/-- The counts after a discard (R177). -/
def Discards.add (d : Discards) (why : DiscardReason) : Discards :=
  match why with
  | .length => { d with length := countUp d.length }
  | .gap => { d with gap := countUp d.gap }
  | .framing => { d with framing := countUp d.framing }
  | .check => { d with check := countUp d.check }
  | .full => { d with full := countUp d.full }

/-- The frame in progress is discarded and hunting resumes (R177). -/
def Clp.discard (c : Clp) (why : DiscardReason) : Clp :=
  { c with receiver := .hunting, discards := c.discards.add why }

/-- ms after the latest byte of a frame at which the gap expires (R177). -/
def gapTime : Nat := 5

/-- Bytes after the start marker of a frame of a payload length: length, kind, payload, two check bytes (R176). -/
def frameLeft (length : Nat) : Nat := length + 4

/-- The check of the bytes taken after the start marker matches (R178). -/
def checkMatches (taken : List Byte) : Bool :=
  taken.drop (taken.length - 2) == bytesOf16 (crc16 (taken.take (taken.length - 2)))

/-- The request frame in the bytes taken after the start marker (R176, R179). -/
def frameOf (taken : List Byte) : InFrame :=
  { kind := taken.getD 1 0
    tag := taken.getD 2 0
    fields := (taken.take (taken.length - 2)).drop 3 }

/-- A whole frame has been taken: it joins the inbound queue, or is discarded by Check or Full (R177, R179). -/
def Clp.complete (c : Clp) (taken : List Byte) : Clp :=
  if !checkMatches taken then c.discard .check
  else if c.inbound.length < inboundMax then
    { c with receiver := .hunting, inbound := c.inbound ++ [frameOf taken] }
  else c.discard .full

/-- A byte taken inside a frame (R175, R177). -/
def Clp.frameByte (c : Clp) (now : Nat) (taken : List Byte) (b : Byte) (framingError : Bool) : Clp :=
  if framingError then c.discard .framing
  else
    match taken with
    | [] =>
      if b.toNat = 0 || 120 < b.toNat then c.discard .length else { c with receiver := .inFrame [b] now }
    | length :: _ =>
      if taken.length + 1 < frameLeft length.toNat then { c with receiver := .inFrame (taken ++ [b]) now }
      else c.complete (taken ++ [b])

/-- A byte taken while hunting (R175, R177). -/
def Clp.huntByte (c : Clp) (now : Nat) (b : Byte) (framingError : Bool) : Clp :=
  if b = startMarker && !framingError then { c with receiver := .inFrame [] now } else c

/-- A byte is taken. More than 5 ms after the byte before it, the frame in progress is discarded by Gap first and the byte
is examined as a possible start marker (R175, R177). -/
def Clp.byte (c : Clp) (now : Nat) (b : Byte) (framingError : Bool) : Clp :=
  match c.receiver with
  | .hunting => c.huntByte now b framingError
  | .inFrame taken latest =>
    if latest + gapTime < now then (c.discard .gap).huntByte now b framingError
    else c.frameByte now taken b framingError

/-- A byte arrives (R177). -/
def byteTaken (b : Byte) (framingError : Bool) (s : State) : State := s.setClp (s.clp.byte s.now b framingError)

/-- Meaning of BYTE_RECEIVED (R177). -/
def execByteReceived (dt : Nat) (byte : Byte) (framingError : Bool) (s : State) : Host.Outcome State Fault Refusal :=
  onSupply dt s (byteTaken byte framingError)

/-- The gap expires 5 ms after the latest byte of a frame (R177). -/
def gapExpired (s : State) : State :=
  match s.clp.receiver with
  | .inFrame _ latest => if latest + gapTime ≤ s.now then s.setClp (s.clp.discard .gap) else s
  | .hunting => s

/-- Meaning of GAP_EXPIRY (R177). -/
def execGapExpiry (dt : Nat) (s : State) : Host.Outcome State Fault Refusal := onSupply dt s gapExpired

/-! ### The transmitter -/

/-- Whether a frame is the reply of a Restart answered Done (R190). -/
def OutFrame.isRestartReply (f : OutFrame) : Bool :=
  match f with
  | .reply kind _ result _ => kind == restartKindCode && result == .done
  | .report _ _ => false

/-- Whether the reply of a pending restart has been sent (R190). -/
def Clp.restartDue (c : Clp) : Bool := c.restart.any PendingRestart.replySent

/-- The last check byte of the oldest frame has been sent: the frame leaves the queue; the Restart reply makes the pending
restart due, after which no frame behind it is sent (R182, R190). -/
def frameSent (s : State) : State :=
  match s.clp.outbound with
  | f :: rest =>
    if s.clp.restartDue then s
    else
      s.setClp { s.clp with
        outbound := rest
        restart := s.clp.restart.map fun p => { p with replySent := f.isRestartReply }
        line := f.bytes }
  | [] => s

/-- Meaning of FRAME_SENT (R182). -/
def execFrameSent (dt : Nat) (s : State) : Host.Outcome State Fault Refusal := onSupply dt s frameSent

/-! ### Status -/

/-- The coil record as it stands (R172). -/
def State.coilRecord (s : State) : CoilRecord :=
  { supply := s.cds.supply
    closed := s.cds.closed
    lockCause := s.cds.lockCause
    settleLeft := s.cds.settleLeft
    idleLeft := s.cds.idleLeft
    sections := s.cds.sections }

/-- Status page 0 as it stands: its supply fields, with the times left, are those of the coil record (R172, R185, log entry
40). -/
def State.generalPage (s : State) : GeneralPage :=
  { lastRestart := s.ssr.lastRestart
    supply := s.coilRecord.supply
    closed := s.coilRecord.closed
    lockCause := s.coilRecord.lockCause
    settleLeft := s.coilRecord.settleLeft
    idleLeft := s.coilRecord.idleLeft
    limiter := s.mlm.state
    u := s.mlm.u
    tipValid := s.ssu.record.tipValid
    bunk := s.evm.bunk
    slow := s.evm.slow
    slewA := s.evm.slewA
    slewB := s.evm.slewB
    intrusion := s.evm.intrusion
    engine := s.wce.state
    link := s.wlc.state
    cause := s.wlc.cause
    valid := s.calValid
    tare := s.wlc.tare.state
    tripNumber := s.lt.number
    counter := s.lt.counter
    listLength := s.lt.lifts.length
    estimate := s.lt.estimate
    payload := s.payload
    store := s.ssr.store
    changeSet := s.clp.changeSet
    enables := s.settings.enables
    ackMode := s.settings.ackMode
    inboundCount := s.clp.inbound.length
    outboundCount := s.clp.outbound.length
    discards := s.clp.discards
    reportNumber := s.clp.reportNumber }

/-- Section record and section part of the coil record of a section (R185). -/
def State.sectionPage (s : State) (i : Fin 6) : SectionPage :=
  { record := s.dsh[i].recordNow, coil := s.coilRecord.sections[i] }

/-- A Status page as it stands, none for a page number outside 0..4 (R185). -/
def State.statusPage (s : State) (page : Nat) : Option StatusPage :=
  match page with
  | 0 => some (.general s.generalPage)
  | 1 => some (.scan s.ssu.record)
  | 2 => some (.limiter s.mlm s.evm.bunk s.evm.slow s.evm.slewA s.evm.slewB s.evm.intrusion)
  | 3 => some (.sections #v[s.sectionPage 0, s.sectionPage 1, s.sectionPage 2])
  | 4 => some (.sections #v[s.sectionPage 3, s.sectionPage 4, s.sectionPage 5])
  | _ => none

/-- The Status request (R185). -/
def statusOwner (page : Nat) (s : State) : Answer :=
  match s.statusPage page with
  | some p => answerDone s (.status p)
  | none => refuse .badField s

/-- Meaning of STATUS (R185). -/
def execStatus (dt : Nat) (s : State) : Host.Outcome State Fault Refusal := execRequest dt 0x01#8 readU8 statusOwner s

/-! ### The change set -/

/-- The change set replaced. -/
def State.putChanges (s : State) (set : SourceSet) : State := s.setClp { s.clp with changeSet := set }

/-- The Read changes request (R188). -/
def readChangesOwner (_ : Unit) (s : State) : Answer :=
  match s.settings.ackMode with
  | .clearOnRead =>
    answerDone (s.putChanges 0#16) (.changes s.clp.changeSet s.settings.enables .clearOnRead (some 0#16))
  | .explicit => answerDone s (.changes s.clp.changeSet s.settings.enables .explicit none)

/-- Meaning of READ_CHANGES (R188). -/
def execReadChanges (dt : Nat) (s : State) : Host.Outcome State Fault Refusal :=
  execRequest dt 0x02#8 readNothing readChangesOwner s

/-- The Clear changes request (R189). -/
def clearChangesOwner (sources : SourceSet) (s : State) : Answer :=
  answerDone (s.putChanges (s.clp.changeSet &&& ~~~sources)) (.changeSet (s.clp.changeSet &&& ~~~sources))

/-- Meaning of CLEAR_CHANGES (R189). -/
def execClearChanges (dt : Nat) (s : State) : Host.Outcome State Fault Refusal :=
  execRequest dt 0x03#8 readSources clearChangesOwner s

/-- The settings after a Change config (R187). -/
def changeSettings (r : ChangeConfigRequest) (set : Settings) : Settings :=
  { set with enables := r.enables.getD set.enables, ackMode := r.mode.getD set.ackMode }

/-- The members left when the enables change: a source whose enable goes off leaves (R187). -/
def membersLeft (members before after : SourceSet) : SourceSet := members &&& ~~~(before &&& ~~~after)

/-- A Change config taken (R187). -/
def changesConfigured (r : ChangeConfigRequest) (s : State) : State :=
  let set := changeSettings r s.settings
  (s.setSettings set).putChanges (membersLeft s.clp.changeSet s.settings.enables set.enables)

/-- The Change config request (R187). -/
def changeConfigOwner (r : ChangeConfigRequest) (s : State) : Answer :=
  let s1 := changesConfigured r s
  answerDone s1 (.changeConfig s1.settings.enables s1.settings.ackMode s1.clp.changeSet)

/-- Meaning of CHANGE_CONFIG (R187). -/
def execChangeConfig (dt : Nat) (s : State) : Host.Outcome State Fault Refusal :=
  execRequest dt 0x04#8 readChangeConfig changeConfigOwner s

end Sys2Proof.Machine
end

