-- ==== Sys2Proof/Machine/Drive.lean ====
section
/-! DEFINITION. Sys2Proof/Machine/Drive.lean: the requests of the Demand Shaper (Drive, Section config, Profile write,
chapter 7) and of the Coil Driver and Supply Switch (Release, Fault clear, chapter 8). -/

namespace Sys2Proof.Machine

open Sys2Proof

/-! ### Drive -/

/-- A demand clamped to −1 000..+1 000‰ (R135). -/
def clampDemand (d : Int) : Int := clampInt (-1000) 1000 d

/-- A section at a Drive: demand held, age restarted, expired flag cleared, latch tested (R135 to R137). -/
def driveSection (due : Nat) (enable : Bool) (demand : Int) (d : DshSection) : DshSection :=
  { d with
    held := if enable then clampDemand demand else 0
    expiryDue := some due
    expired := false
    disabled := !enable
    latch := d.latch && !(enable && (clampDemand demand).natAbs < 50) }

/-- The six sections at a Drive (R135 to R137). -/
def driveHeld (r : DriveRequest) (s : State) : State :=
  s.setDsh (Vector.ofFn fun i =>
    driveSection (s.now + s.settings.common.expiryTime) (r.enable == 1) (r.demands.getD i 0) s.dsh[i])

/-- Whether a held demand is not 0 (R167). -/
def anyHeld (dsh : Vector DshSection 6) : Bool := (List.finRange 6).any fun i => dsh[i].held != 0

/-- What the CDS does with the held demands and the halt flag (R135, R167, R171). -/
def driveSupply (halt : Bool) (s : State) : State :=
  if halt then lockUnlessLocked .halt s
  else if s.cds.supply = .asleep && anyHeld s.dsh then wakeSupply s
  else s

/-- The fields of the Drive reply as they stand (R184). -/
def State.driveReply (s : State) : ReplyBody :=
  .drive
    { sections := Vector.ofFn fun i => (s.cds.sections[i].output, s.cds.sections[i].state)
      supply := s.cds.supply
      limiter := s.mlm.state
      u := s.mlm.u
      bunk := s.evm.bunk
      engine := s.wce.state }

/-- A Drive that is taken: demands, the demand event, then the supply (R135). -/
def driveTaken (r : DriveRequest) (s : State) : State := driveSupply (r.halt == 1) (demandEvent (driveHeld r s))

/-- The Drive request (R135, R184). -/
def driveOwner (r : DriveRequest) (s : State) : Answer :=
  if 1 < r.enable || 1 < r.halt then { state := s, result := .badField, body := s.driveReply }
  else answerDone (driveTaken r s) (driveTaken r s).driveReply

/-- Meaning of DRIVE (R135). -/
def execDrive (dt : Nat) (s : State) : Host.Outcome State Fault Refusal := execRequest dt 0x10#8 readDrive driveOwner s

/-! ### Section config -/

/-- Every field present lies in its range (R151 step 1, section 7.7). -/
def sectionInRange (r : SectionConfigRequest) : Bool :=
  optRange 1 1000 r.upStep && optRange 1 1000 r.downStep && optRange 0 15 r.startIndex && optRange 1 255 r.stepDivider &&
    optRange 0 3 r.deadTime && optRange 0 1500 r.iMin && optRange 100 2500 r.iMax && optRange 50 500 r.expiryTime &&
    optRange 1 600 r.idleTime && optRange 20 500 r.settleTime

/-- The section settings with each field present replaced (R151 step 4). -/
def sectionApply (r : SectionConfigRequest) (c : SectionSettings) : SectionSettings :=
  { mode := r.mode.getD c.mode
    upStep := r.upStep.getD c.upStep
    downStep := r.downStep.getD c.downStep
    stopMode := r.stopMode.getD c.stopMode
    classA := r.classA.getD c.classA
    classB := r.classB.getD c.classB
    range := r.range.getD c.range
    startIndex := r.startIndex.getD c.startIndex
    stepDivider := r.stepDivider.getD c.stepDivider
    endMode := r.endMode.getD c.endMode
    deadTime := r.deadTime.getD c.deadTime
    iMin := r.iMin.getD c.iMin
    iMax := r.iMax.getD c.iMax }

/-- The common settings with each field present replaced (R151 step 4). -/
def commonApply (r : SectionConfigRequest) (c : CommonSettings) : CommonSettings :=
  { expiryTime := r.expiryTime.getD c.expiryTime
    idleTime := r.idleTime.getD c.idleTime
    settleTime := r.settleTime.getD c.settleTime }

/-- The start index lies in the range and I_min is below I_max (R151 step 2). -/
def SectionSettings.consistent (c : SectionSettings) : Bool :=
  c.range.bottom ≤ c.startIndex && c.startIndex ≤ c.range.top && c.iMin < c.iMax

/-- Whether a request carries the section number alone (R151). -/
def sectionEmpty (r : SectionConfigRequest) : Bool :=
  r.mode.isNone && r.upStep.isNone && r.downStep.isNone && r.stopMode.isNone && r.classA.isNone && r.classB.isNone &&
    r.range.isNone && r.startIndex.isNone && r.stepDivider.isNone && r.endMode.isNone && r.deadTime.isNone &&
    r.iMin.isNone && r.iMax.isNone && r.expiryTime.isNone && r.idleTime.isNone && r.settleTime.isNone

/-- Whether a request carries a setting that needs a stopped section (R151 step 3, R152). -/
def needsStopped (r : SectionConfigRequest) : Bool :=
  r.mode.isSome || r.range.isSome || r.startIndex.isSome || r.stepDivider.isSome || r.endMode.isSome

/-- Whether a section moves by its latest record (R151, R153). -/
def SectionRecord.moving (r : SectionRecord) : Bool := r.output != 0 || r.running

/-- The Section config reply as it stands (R151). -/
def State.sectionReply (s : State) (i : Fin 6) : ReplyBody :=
  .sectionConfig s.settings.sections[i] s.settings.common s.dsh[i].recordNow

/-- A Section config whose fields are taken (R151 step 4). -/
def sectionConfigured (i : Fin 6) (r : SectionConfigRequest) (s : State) : State :=
  s.setSettings { s.settings with
    sections := s.settings.sections.set i (sectionApply r s.settings.sections[i])
    common := commonApply r s.settings.common }

/-- The Section config request (R151). -/
def sectionConfigOwner (r : SectionConfigRequest) (s : State) : Answer :=
  match finOf 6 r.sec with
  | none => refuse .badField s
  | some i =>
    if sectionEmpty r then answerDone s (s.sectionReply i)
    else if !sectionInRange r || !(sectionApply r s.settings.sections[i]).consistent then refuse .badField s
    else if needsStopped r && s.dsh[i].record.moving then refuse .state s
    else answerDone (sectionConfigured i r s) ((sectionConfigured i r s).sectionReply i)

/-- Meaning of SECTION_CONFIG (R151). -/
def execSectionConfig (dt : Nat) (s : State) : Host.Outcome State Fault Refusal :=
  execRequest dt 0x11#8 readSectionConfig sectionConfigOwner s

/-! ### Profile write -/

/-- The table of a table number 1..3 (R146, R153). -/
def tableNumbered (n : Nat) : Option (Fin 3) := if n = 0 then none else finOf 3 (n - 1)

/-- A section that shares the table is in profile mode and moves, by its latest record (R153 step 2). -/
def tableBusy (s : State) (t : Fin 3) : Bool :=
  (List.finRange 6).any fun i => tableOf i == t && s.dsh[i].record.mode == .profile && s.dsh[i].record.moving

/-- A table replaced by sixteen entries (R153 step 3). -/
def profileWritten (t : Fin 3) (entries : List Nat) (s : State) : State :=
  s.setSettings { s.settings with
    profiles := s.settings.profiles.set t (Vector.ofFn fun k => entries.getD k 0) }

/-- The Profile write request (R153). -/
def profileOwner (r : ProfileRequest) (s : State) : Answer :=
  match tableNumbered r.table with
  | none => refuse .badField s
  | some t =>
    match r.entries with
    | none => answerDone s (.profile s.settings.profiles[t])
    | some es =>
      if !es.all (inRange 0 1000) then refuse .badField s
      else if tableBusy s t then refuse .state s
      else answerDone (profileWritten t es s) (.profile (profileWritten t es s).settings.profiles[t])

/-- Meaning of PROFILE_WRITE (R153). -/
def execProfileWrite (dt : Nat) (s : State) : Host.Outcome State Fault Refusal :=
  execRequest dt 0x12#8 readProfile profileOwner s

/-! ### Release and Fault clear -/

/-- Whether a section is in FAULT with cause Short (R166). -/
def CdsSection.shorted (c : CdsSection) : Bool := c.state == .fault && c.fault.any (·.cause == .short)

/-- Whether any section is in FAULT with cause Short (R166). -/
def anyShorted (c : Cds) : Bool := (List.finRange 6).any fun i => c.sections[i].shorted

/-- The supply released: ASLEEP, lock cause cleared, switch left open (R166, R172). -/
def released (s : State) : State := s.publishCds { s.cds with supply := .asleep, lockCause := none }

/-- The fields of the Release reply as they stand (R166). DESIGN CHOICE: the manual does not say whether the fault records
are a list or optional fields; the model holds one optional record for each section (log entry 39). -/
def State.releaseReply (s : State) : ReplyBody :=
  .release s.cds.supply s.cds.lockCause
    (Vector.ofFn fun i => if s.cds.sections[i].state = .fault then s.cds.sections[i].fault else none)

/-- The Release request (R166). -/
def releaseOwner (_ : Unit) (s : State) : Answer :=
  if s.cds.supply = .locked then
    if anyShorted s.cds then { state := s, result := .state, body := s.releaseReply }
    else answerDone (released s) (released s).releaseReply
  else answerDone s s.releaseReply

/-- Meaning of RELEASE (R166). -/
def execRelease (dt : Nat) (s : State) : Host.Outcome State Fault Refusal :=
  execRequest dt 0x14#8 readNothing releaseOwner s

/-- The sections a selector names: one, or all six for 6 (R164). -/
def selects (selector : Nat) (i : Fin 6) : Bool := selector == 6 || selector == i.val

/-- The selected sections leave FAULT for BLOCKED, their records cleared and their latches set; the coil record is published
when a section's state changes (R138, R164, R172). -/
def faultsCleared (selector : Nat) (s : State) : State :=
  let clears : Fin 6 → Bool := fun i => selects selector i && s.cds.sections[i].state == .fault
  let cleared : Cds := { s.cds with
    sections := Vector.ofFn fun i =>
      if clears i then { s.cds.sections[i] with state := .blocked, fault := none } else s.cds.sections[i] }
  (if (List.finRange 6).any clears then s.publishCds cleared else s.setCds cleared).setDsh
    (Vector.ofFn fun i => if clears i then { s.dsh[i] with latch := true } else s.dsh[i])

/-- The fields of the Fault clear reply as they stand (R164). -/
def State.faultReply (s : State) : ReplyBody :=
  .faultClear (Vector.ofFn fun i => s.cds.sections[i].state) s.cds.supply s.cds.lockCause

/-- The Fault clear request (R164). -/
def faultClearOwner (selector : Nat) (s : State) : Answer :=
  if 6 < selector then refuse .badField s
  else answerDone (faultsCleared selector s) (faultsCleared selector s).faultReply

/-- Meaning of FAULT_CLEAR (R164). -/
def execFaultClear (dt : Nat) (s : State) : Host.Outcome State Fault Refusal :=
  execRequest dt 0x15#8 readU8 faultClearOwner s

end Sys2Proof.Machine
end

