-- ==== Sys2Proof/Machine/EngineRequests.lean ====
section
/-! DEFINITION. Sys2Proof/Machine/EngineRequests.lean: the requests of the Weigh Capture Engine (Arm, Disarm, Capture config,
chapter 3) and of the Weigh Link Controller (Link status, Link reset, Calibrate, Tare, chapter 2). -/

namespace Sys2Proof.Machine

open Sys2Proof

/-! ### Arm, Disarm, Capture config -/

/-- An answer that carries the engine snapshot of the state after it (R51, R52, R73). -/
def withSnapshot (result : ResultCode) (s : State) : Answer :=
  { state := s, result := result, body := .snapshot s.snapshot }

/-- Arm in GRIPPED: the record is read; a valid one arms the grip, and the lift trigger is tested at once (R51). -/
def armGripped (s : State) : Answer :=
  let s1 := s.setWce { s.wce with validityRead := s.calValid }
  if s.calValid then withSnapshot .done (triggerArmed (s1.setWce { s1.wce with state := .armed }))
  else withSnapshot .noCal s1

/-- The Arm request (R49, R51). -/
def armOwner (_ : Unit) (s : State) : Answer :=
  match s.wce.state with
  | .idle => withSnapshot .done (s.setWce { s.wce with preArm := true })
  | .gripped => armGripped s
  | .armed => withSnapshot .done s
  | .collecting | .suspended | .held => withSnapshot .busy s

/-- The Disarm request (R49, R52). -/
def disarmOwner (_ : Unit) (s : State) : Answer :=
  match s.wce.state with
  | .idle => withSnapshot .done (s.setWce { s.wce with preArm := false })
  | .armed => withSnapshot .done (s.setWce { s.wce with state := .gripped })
  | .collecting | .suspended => withSnapshot .done (endUnweighed .disarmed s)
  | .gripped | .held => withSnapshot .done s

/-- Every field present lies in its range (R71, section 3.9). -/
def captureInRange (r : CaptureRequest) : Bool :=
  optRange 50 900 r.gripThreshold && optRange 100 2000 r.holdTime && optRange 50 900 r.liftThreshold &&
    optRange 16 255 r.budget && optRange 0 3 r.maxExtensions && optRange 8 64 r.extensionSize &&
    optRange 1 255 r.rejectLimit && optRange 5 100 r.swingLimit && optRange 50 2000 r.spreadLimit &&
    optRange 500 10000 r.suspendTime

/-- Whether a Capture config carries no field. -/
def captureEmpty (r : CaptureRequest) : Bool :=
  r.gripThreshold.isNone && r.holdTime.isNone && r.autoArm.isNone && r.liftThreshold.isNone && r.budget.isNone &&
    r.maxExtensions.isNone && r.extensionSize.isNone && r.rejectLimit.isNone && r.swingLimit.isNone &&
    r.spreadLimit.isNone && r.suspendTime.isNone

/-- The capture settings with each field present replaced (R71). -/
def captureApply (r : CaptureRequest) (c : CaptureSettings) : CaptureSettings :=
  { gripThreshold := r.gripThreshold.getD c.gripThreshold
    holdTime := r.holdTime.getD c.holdTime
    autoArm := r.autoArm.getD c.autoArm
    liftThreshold := r.liftThreshold.getD c.liftThreshold
    budget := r.budget.getD c.budget
    maxExtensions := r.maxExtensions.getD c.maxExtensions
    extensionSize := r.extensionSize.getD c.extensionSize
    rejectLimit := r.rejectLimit.getD c.rejectLimit
    swingLimit := r.swingLimit.getD c.swingLimit
    spreadLimit := r.spreadLimit.getD c.spreadLimit
    suspendTime := r.suspendTime.getD c.suspendTime }

/-- Whether a capture or a tare operation runs (R38, R71). -/
def State.weighing (s : State) : Bool := s.wce.capturing || s.wlc.tare.state = .running

/-- The Capture config request (R71). -/
def captureOwner (r : CaptureRequest) (s : State) : Answer :=
  if !captureInRange r then refuse .badField s
  else if !captureEmpty r && s.weighing then refuse .busy s
  else
    let s1 := s.setSettings { s.settings with capture := captureApply r s.settings.capture }
    answerDone s1 (.captureConfig s1.settings.capture s1.snapshot)

/-- Meaning of ARM (R51). -/
def execArm (dt : Nat) (s : State) : Host.Outcome State Fault Refusal := execRequest dt 0x20#8 readNothing armOwner s

/-- Meaning of DISARM (R52). -/
def execDisarm (dt : Nat) (s : State) : Host.Outcome State Fault Refusal :=
  execRequest dt 0x21#8 readNothing disarmOwner s

/-- Meaning of CAPTURE_CONFIG (R71). -/
def execCaptureConfig (dt : Nat) (s : State) : Host.Outcome State Fault Refusal :=
  execRequest dt 0x22#8 readCapture captureOwner s

/-! ### Link status, Link reset, Calibrate, Tare -/

/-- The Link status reply (R43). -/
def State.linkStatus (s : State) : LinkStatusReply :=
  { state := s.wlc.state
    cause := s.wlc.cause
    detect := s.wlc.detect
    supply := s.wlc.supply
    autoPower := s.settings.autoPower
    identity := s.wlc.identity
    calRecord := s.settings.calRecord
    valid := s.calValid
    trimInForce := s.trimInForce
    tare := s.wlc.tare.state
    accepted := s.wlc.tare.accepted
    rejected := s.wlc.tare.rejected
    failures := s.wlc.failures
    historyCount := s.wlc.history.length
    latest := s.wlc.latest
    ringCount := s.wlc.ring.length }

/-- The Link status request (R43). -/
def linkStatusOwner (_ : Unit) (s : State) : Answer := answerDone s (.linkStatus s.linkStatus)

/-- The repowering of the head by a Link reset (R23, R37). -/
def resetLink (s : State) : State :=
  linkLeft (s.setWlc { s.wlc.abandon with
    state := .powering
    cause := .none
    supply := false
    identity := none
    history := []
    activity := .offTime (s.now + powerOffTime) })

/-- The Link reset request (R37). -/
def linkResetOwner (_ : Unit) (s : State) : Answer :=
  if s.wlc.state = .absent && !s.wlc.detect then refuse .noLink s
  else { state := resetLink s, result := .accepted, body := .none }

/-- The Calibrate request (R38). DEDUCED: the Busy of R38 is read as needing a trim in both its cases, so a request with the
auto power value alone is taken while a tare runs (log entry 42). -/
def calibrateOwner (r : CalibrateRequest) (s : State) : Answer :=
  if !optRange 900 1100 r.trim then refuse .badField s
  else if r.trim.isSome && s.weighing then refuse .busy s
  else
    let s1 := s.setSettings { s.settings with
      calRecord := { s.settings.calRecord with trim := r.trim.getD s.settings.calRecord.trim }
      autoPower := r.autoPower.getD s.settings.autoPower }
    answerDone s1 (.calibrate s1.settings.calRecord s1.calValid s1.settings.autoPower)

/-- The Tare request (R39). -/
def tareOwner (_ : Unit) (s : State) : Answer :=
  if s.wlc.tare.state = .running then refuse .busy s
  else if s.wlc.state ≠ .running then refuse .noLink s
  else if s.wce.state ≠ .idle then refuse .busy s
  else
    { state := s.setWlc { s.wlc with tare := { state := .running, accepted := 0, rejected := 0, sum := 0 } }
      result := .accepted
      body := .none }

/-- Meaning of LINK_STATUS (R43). -/
def execLinkStatus (dt : Nat) (s : State) : Host.Outcome State Fault Refusal :=
  execRequest dt 0x50#8 readNothing linkStatusOwner s

/-- Meaning of LINK_RESET (R37). -/
def execLinkReset (dt : Nat) (s : State) : Host.Outcome State Fault Refusal :=
  execRequest dt 0x51#8 readNothing linkResetOwner s

/-- Meaning of CALIBRATE (R38). -/
def execCalibrate (dt : Nat) (s : State) : Host.Outcome State Fault Refusal :=
  execRequest dt 0x52#8 readCalibrate calibrateOwner s

/-- Meaning of TARE (R39). -/
def execTare (dt : Nat) (s : State) : Host.Outcome State Fault Refusal := execRequest dt 0x53#8 readNothing tareOwner s

end Sys2Proof.Machine
end

