-- ==== Sys2Proof/Machine/Store.lean ====
section
/-! DEFINITION. Sys2Proof/Machine/Store.lean: Store settings and the completion of its write (section 10.4). -/

namespace Sys2Proof.Machine

open Sys2Proof

/-- ms from a Store settings to the completion of its write (R197). -/
def storeTime : Nat := 40

/-- The image in the current slot. -/
def Ssr.currentImage (r : Ssr) : Option StoredImage := r.current.bind fun i => r.slots[i]

/-- The sequence number a new image carries: one above the current image's, or 1 when there is none (R196). -/
def Ssr.nextSequence (r : Ssr) : Nat :=
  match r.currentImage with
  | some m => (m.sequence + 1) % 65536
  | none => 1

/-- A write started: the snapshot is taken, the target's check erased (R196). -/
def storeStarted (s : State) : State :=
  s.setSsr { s.ssr with
    slots := s.ssr.slots.set s.ssr.target none
    store := .writing
    write := some
      { image := s.settings, sequence := s.ssr.nextSequence, target := s.ssr.target, due := s.now + storeTime } }

/-- The Store settings request (R196). -/
def storeOwner (_ : Unit) (s : State) : Answer :=
  match s.ssr.store, s.ssr.write with
  | .writing, some w => { state := s, result := .busy, body := .store .writing w.target w.sequence }
  | .writing, none => { state := s, result := .busy, body := .store .writing s.ssr.target s.ssr.nextSequence }
  | .idle, _ | .done, _ | .failed, _ =>
    { state := storeStarted s, result := .accepted, body := .store .writing s.ssr.target s.ssr.nextSequence }

/-- Meaning of STORE_SETTINGS (R196). -/
def execStoreSettings (dt : Nat) (s : State) : Host.Outcome State Fault Refusal :=
  execRequest dt 0x60#8 readNothing storeOwner s

/-- The write completes: DONE with the slot good and current when the check read back matches, else FAILED (R197). -/
def storeCompleted (checkMatches : Bool) (s : State) : State :=
  match s.ssr.write with
  | some w =>
    if w.due ≤ s.now then
      if checkMatches then
        s.setSsr { s.ssr with
          slots := s.ssr.slots.set w.target (some { image := w.image, sequence := w.sequence })
          current := some w.target
          store := .done
          write := none }
      else s.setSsr { s.ssr with store := .failed, write := none }
    else s
  | none => s

/-- Meaning of STORE_WRITE_COMPLETION (R197). -/
def execStoreWriteCompletion (dt : Nat) (checkMatches : Bool) (s : State) : Host.Outcome State Fault Refusal :=
  onSupply dt s (storeCompleted checkMatches)

end Sys2Proof.Machine
end

