-- ==== Sys2Proof/Machine/Restart.lean ====
section
/-! DEFINITION. Sys2Proof/Machine/Restart.lean: the Restart request, the restart, and the loss and return of the supplies
(chapter 10). -/

namespace Sys2Proof.Machine

open Sys2Proof

/-! ### The restart -/

/-- The current image, decided from the two slots (R195). -/
def currentSlot (slots : Vector (Option StoredImage) 2) : Option (Fin 2) :=
  match slots[0], slots[1] with
  | some _, none => some 0
  | none, some _ => some 1
  | some a, some b => if b.sequence = (a.sequence + 1) % 65536 then some 1 else some 0
  | none, none => none

/-- The kind of a restart requested as a kind, or none at the application of the main supply (R198). -/
def restartKindOf (asked : Option RestartKind) (retainedGood : Bool) : RestartKind :=
  if retainedGood && asked != some .cold then .warm else .cold

/-- The settings a COLD restart loads: the current image, or the defaults (R198). -/
def coldSettings (slots : Vector (Option StoredImage) 2) : Settings :=
  match (currentSlot slots).bind fun i => slots[i] with
  | some m => m.image
  | none => Settings.defaults

/-- The working settings after a restart of a kind (R198). -/
def settingsAfter (kind : RestartKind) (s : State) : Settings :=
  match kind with
  | .warm => s.settings
  | .cold => coldSettings s.ssr.slots

/-- Every block at its restart values for a kind and settings (R19, R44, R74, R98, R99, R115, R134, R155, R174, R191,
R200). -/
def restartBlocks (kind : RestartKind) (set : Settings) (s : State) : State :=
  { now := s.now
    power := s.power
    settings := set
    ssu := restartSsu set.geometry
    wlc := restartWlc s.now s.wlc.detectLine
    wce := restartWce (kind == .warm && s.wce.preArm)
    lt := match kind with
      | .warm => s.lt
      | .cold => coldTrip
    evm := restartEval set.zones
    mlm := restartLimiter
    dsh := restartDsh set.sections
    cds := restartCds set.sections
    clp := restartClp s.clp.line
    ssr :=
      { retainedGood := true
        slots := s.ssr.slots
        current := currentSlot s.ssr.slots
        store := .idle
        write := none
        lastRestart := kind }
    pending := s.pending }

/-- A restart: the kind, the settings, the blocks, then SettingsDefaulted when the settings were set to defaults (R198). -/
def restarted (asked : Option RestartKind) (s : State) : State :=
  let kind := restartKindOf asked s.ssr.retainedGood
  latchIf (kind == .cold && (currentSlot s.ssr.slots).isNone) .settingsDefaulted
    (restartBlocks kind (settingsAfter kind s) s)

/-- The restart event: the application of the main supply while it is absent; with it present, the restart that a sent
Restart reply makes (R190, R198, log entry 21). -/
def restartTaken (s : State) : State :=
  if s.power.main then
    match s.clp.restart with
    | some p => if p.replySent then restarted (some p.kind) s else s
    | none => s
  else restarted none (s.setPower { s.power with main := true })

/-- Meaning of RESTART (R198). -/
def execRestart (dt : Nat) (s : State) : Host.Outcome State Fault Refusal := .next (restartTaken (s.tick dt))

/-! ### The Restart request -/

/-- The Restart request (R190, R199). -/
def restartOwner (kind : RestartKind) (s : State) : Answer :=
  answerDone (s.setClp { s.clp with restart := some { kind := kind, replySent := false } }) .none

/-- Meaning of RESTART_REQUEST (R199). -/
def execRestartRequest (dt : Nat) (s : State) : Host.Outcome State Fault Refusal :=
  execRequest dt restartKindCode readRestart restartOwner s

/-! ### Supplies -/

/-- The main supply goes: a write in progress is abandoned as by a restart, its slot left bad and the store state IDLE; DONE
and FAILED are held; retained memory is kept while the standby supply is present (R194, R197). -/
def mainLost (s : State) : State :=
  (s.setPower { s.power with main := false }).setSsr
    { s.ssr with
      retainedGood := s.ssr.retainedGood && s.power.standby
      store := if s.ssr.store = .writing then .idle else s.ssr.store
      write := none }

/-- Meaning of MAIN_SUPPLY_LOSS (R194, R197). -/
def execMainSupplyLoss (dt : Nat) (s : State) : Host.Outcome State Fault Refusal := .next (mainLost (s.tick dt))

/-- The standby supply goes: retained memory is kept while the main supply is present (R194). -/
def standbyLost (s : State) : State :=
  (s.setPower { s.power with standby := false }).setSsr
    { s.ssr with retainedGood := s.ssr.retainedGood && s.power.main }

/-- Meaning of STANDBY_SUPPLY_LOSS (R194). -/
def execStandbySupplyLoss (dt : Nat) (s : State) : Host.Outcome State Fault Refusal := .next (standbyLost (s.tick dt))

/-- The standby supply returns (R194). -/
def standbyReturned (s : State) : State := s.setPower { s.power with standby := true }

/-- Meaning of STANDBY_SUPPLY_RETURN (R194). -/
def execStandbySupplyReturn (dt : Nat) (s : State) : Host.Outcome State Fault Refusal :=
  .next (standbyReturned (s.tick dt))

end Sys2Proof.Machine
end

