-- ==== Sys2Proof/Machine/SettingRequests.lean ====
section
/-! DEFINITION. Sys2Proof/Machine/SettingRequests.lean: the requests that read and write the settings of the Sensor Scan Unit
(chapter 1), the Envelope Monitor (chapter 5) and the Moment Limiter (chapter 6). -/

namespace Sys2Proof.Machine

open Sys2Proof

/-! ### Zones -/

/-- Every field present lies in its range (R110 step 1, section 5.1). -/
def zoneInRange (r : ZoneWriteRequest) : Bool :=
  optRangeInt (-1900) 1900 r.slewStart && optRangeInt (-1900) 1900 r.slewStop && optRange 0 12000 r.reachMin &&
    optRange 0 12000 r.reachMax && optRange 0 1000 r.slow && optRange 0 300 r.guard

/-- Whether a Zone write carries no optional field (R110). -/
def zoneEmpty (r : ZoneWriteRequest) : Bool :=
  r.kind.isNone && r.chassis.isNone && r.slewStart.isNone && r.slewStop.isNone && r.reachMin.isNone && r.reachMax.isNone &&
    r.slow.isNone && r.guard.isNone

/-- The zone with each field present replaced (R110 step 3). -/
def zoneApply (r : ZoneWriteRequest) (z : Zone) : Zone :=
  { enable := z.enable
    kind := r.kind.getD z.kind
    chassis := r.chassis.getD z.chassis
    slewStart := r.slewStart.getD z.slewStart
    slewStop := r.slewStop.getD z.slewStop
    reachMin := r.reachMin.getD z.reachMin
    reachMax := r.reachMax.getD z.reachMax
    slow := r.slow.getD z.slow
    guard := r.guard.getD z.guard }

/-- Zone `i` of the working settings replaced. -/
def State.putZone (s : State) (i : Fin 8) (z : Zone) : State :=
  s.setSettings { s.settings with zones := s.settings.zones.set i z }

/-- The Zone write request (R110). -/
def zoneWriteOwner (r : ZoneWriteRequest) (s : State) : Answer :=
  match finOf 8 r.zone with
  | none => refuse .badField s
  | some i =>
    if !zoneInRange r then refuse .badField s
    else if !zoneEmpty r && s.settings.zones[i].enable then refuse .state s
    else answerDone (s.putZone i (zoneApply r s.settings.zones[i])) (.zone (zoneApply r s.settings.zones[i]))

/-- Meaning of ZONE_WRITE (R110). -/
def execZoneWrite (dt : Nat) (s : State) : Host.Outcome State Fault Refusal :=
  execRequest dt 0x40#8 readZoneWrite zoneWriteOwner s

/-- The Zone enable request (R111, R112). -/
def zoneEnableOwner (r : ZoneEnableRequest) (s : State) : Answer :=
  match finOf 8 r.zone with
  | none => refuse .badField s
  | some i =>
    if r.enable && !s.settings.zones[i].enable && !s.settings.zones[i].ordered then refuse .badField s
    else answerDone (s.putZone i { s.settings.zones[i] with enable := r.enable }) .none

/-- Meaning of ZONE_ENABLE (R111, R112). -/
def execZoneEnable (dt : Nat) (s : State) : Host.Outcome State Fault Refusal :=
  execRequest dt 0x41#8 readZoneEnable zoneEnableOwner s

/-- Side, distance and guard factor of an armed STOP zone that does not contain the tip (R106, R113, log entry 14): the
bounds, the armed flag and the membership of the latest evaluation, the tip slew it was made on, the stored guard. DESIGN
CHOICE: a zone whose stored bounds stood out of order at that evaluation and are in order now can have the tip on both
sides of the old bounds, and the model then shows ABOVE (log entry 35); or, where ARTIC LOST or the clamp has put the old
bounds in order, the tip between them, on neither side, and the model then leaves the group absent (log entry 44). -/
def guardOf (slew : Int) (z : Zone) (e : ZoneEval) : Option ZoneGuard :=
  if z.kind = .stop && e.armed && e.membership = .outZone && z.slewStart ≤ z.slewStop then
    match e.bounds with
    | some (start, stop) =>
      if slew < start then
        some { side := .above, delta := (start - slew).toNat, factor := guardFactor (start - slew).toNat z.guard }
      else if stop < slew then
        some { side := .below, delta := (slew - stop).toNat, factor := guardFactor (slew - stop).toNat z.guard }
      else none
    | none => none
  else none

/-- The fields of the Zone read reply as they stand (R113). DESIGN CHOICE: before the first scan after a restart no
evaluation has been made on a record; θ, R and the tip validity shown are then those of the restart record of R19 (log
entry 34). -/
def State.zoneReply (s : State) (i : Fin 8) : ZoneReadReply :=
  { zone := s.settings.zones[i]
    bounds := s.evm.zones[i].bounds
    membership := s.evm.zones[i].membership
    armed := if s.settings.zones[i].kind = .stop then some s.evm.zones[i].armed else none
    guard := guardOf s.ssu.record.slew s.settings.zones[i] s.evm.zones[i]
    slew := s.ssu.record.slew
    reach := s.ssu.record.reach
    tipValid := s.ssu.record.tipValid
    bunk := s.evm.bunk
    slow := s.evm.slow
    slewA := s.evm.slewA
    slewB := s.evm.slewB
    intrusion := s.evm.intrusion }

/-- The Zone read request (R113). -/
def zoneReadOwner (n : Nat) (s : State) : Answer :=
  match finOf 8 n with
  | none => refuse .badField s
  | some i => answerDone s (.zoneRead (s.zoneReply i))

/-- Meaning of ZONE_READ (R113). -/
def execZoneRead (dt : Nat) (s : State) : Host.Outcome State Fault Refusal :=
  execRequest dt 0x42#8 readU8 zoneReadOwner s

/-! ### Limiter -/

/-- Every field present lies in its range (R131 step 1). -/
def limiterInRange (r : LimiterRequest) : Bool :=
  optRange 500 990 r.warnOn && optRange 600 1200 r.limitOn && optRange 0 200 r.hyst && optRange 0 300 r.derate &&
    optRange 1 50000 r.pistonArea && optRange 1 50000 r.rodArea && optRange 100 3000 r.lever

/-- The limiter settings with each field present replaced (R131 step 3). -/
def limiterApply (r : LimiterRequest) (c : LimiterSettings) : LimiterSettings :=
  { warnOn := r.warnOn.getD c.warnOn
    limitOn := r.limitOn.getD c.limitOn
    hyst := r.hyst.getD c.hyst
    derate := r.derate.getD c.derate
    pistonArea := r.pistonArea.getD c.pistonArea
    rodArea := r.rodArea.getD c.rodArea
    lever := r.lever.getD c.lever }

/-- Whether a Limiter config carries no field: a read (R131). -/
def limiterEmpty (r : LimiterRequest) : Bool :=
  r.warnOn.isNone && r.limitOn.isNone && r.hyst.isNone && r.derate.isNone && r.pistonArea.isNone && r.rodArea.isNone &&
    r.lever.isNone

/-- A Limiter config whose fields are taken (R131 step 3). -/
def limiterConfigured (r : LimiterRequest) (s : State) : State :=
  s.setSettings { s.settings with limiter := limiterApply r s.settings.limiter }

/-- The Limiter config request (R131). -/
def limiterOwner (r : LimiterRequest) (s : State) : Answer :=
  let c := limiterApply r s.settings.limiter
  if !limiterInRange r then refuse .badField s
  else if !limiterEmpty r && c.limitOn ≤ c.warnOn then refuse .badField s
  else answerDone (limiterConfigured r s) (.limiterConfig c s.mlm)

/-- Meaning of LIMITER_CONFIG (R131). -/
def execLimiterConfig (dt : Nat) (s : State) : Host.Outcome State Fault Refusal :=
  execRequest dt 0x48#8 readLimiter limiterOwner s

/-- The rated table with each entry present replaced (R132). -/
def ratedApply (r : List (Option Nat)) (t : Vector Nat 9) : Vector Nat 9 :=
  Vector.ofFn fun i => (r.getD i none).getD t[i]

/-- A Rated write whose entries are taken (R132). -/
def ratedWritten (r : List (Option Nat)) (s : State) : State :=
  s.setSettings { s.settings with rated := ratedApply r s.settings.rated }

/-- The Rated write request (R132). -/
def ratedOwner (r : List (Option Nat)) (s : State) : Answer :=
  if !r.all (optRange 1000 999999) then refuse .badField s
  else answerDone (ratedWritten r s) (.rated (ratedApply r s.settings.rated) s.mlm)

/-- Meaning of RATED_WRITE (R132). -/
def execRatedWrite (dt : Nat) (s : State) : Host.Outcome State Fault Refusal :=
  execRequest dt 0x49#8 readRated ratedOwner s

/-! ### Channels and geometry -/

/-- A calibration is one the request may carry for a channel (R16). -/
def calOk (n : Fin 9) (c : ChannelCal) : Bool :=
  inRange 0 4095 c.rawLo && inRange 0 4095 c.rawHi && inRangeInt (channelMin n) (channelMax n) c.valLo &&
    inRangeInt (channelMin n) (channelMax n) c.valHi && c.rawLo < c.rawHi

/-- A channel's calibration replaced (R16). -/
def calibrated (n : Fin 9) (c : ChannelCal) (s : State) : State :=
  s.setSettings { s.settings with cal := s.settings.cal.set n c }

/-- The Channel calibration reply as it stands (R16). -/
def State.channelReply (s : State) (n : Fin 9) : ReplyBody :=
  .channel n s.settings.cal[n] s.ssu.record.channels[n]

/-- The Channel calibration request (R16). -/
def channelOwner (r : ChannelRequest) (s : State) : Answer :=
  match finOf 9 r.channel with
  | none => refuse .badField s
  | some n =>
    match r.cal with
    | none => answerDone s (s.channelReply n)
    | some c =>
      if calOk n c then answerDone (calibrated n c s) ((calibrated n c s).channelReply n) else refuse .badField s

/-- Meaning of CHANNEL_CALIBRATION (R16). -/
def execChannelCalibration (dt : Nat) (s : State) : Host.Outcome State Fault Refusal :=
  execRequest dt 0x58#8 readChannel channelOwner s

/-- Every field present lies in its range (R17). -/
def geometryInRange (r : GeometryRequest) : Bool :=
  optRange 0 1000 r.pillar && optRange 1000 8000 r.mainLen && optRange 1000 8000 r.outerLen

/-- The geometry with each field present replaced (R17). -/
def geometryApply (r : GeometryRequest) (g : Geometry) : Geometry :=
  { pillar := r.pillar.getD g.pillar
    mainLen := r.mainLen.getD g.mainLen
    outerLen := r.outerLen.getD g.outerLen }

/-- A Geometry config whose fields are taken (R17). -/
def geometryConfigured (r : GeometryRequest) (s : State) : State :=
  s.setSettings { s.settings with geometry := geometryApply r s.settings.geometry }

/-- The Geometry config request (R17). -/
def geometryOwner (r : GeometryRequest) (s : State) : Answer :=
  if !geometryInRange r then refuse .badField s
  else
    answerDone (geometryConfigured r s)
      (.geometry (geometryApply r s.settings.geometry) s.ssu.record.reach s.ssu.record.tipValid)

/-- Meaning of GEOMETRY_CONFIG (R17). -/
def execGeometryConfig (dt : Nat) (s : State) : Host.Outcome State Fault Refusal :=
  execRequest dt 0x59#8 readGeometry geometryOwner s

end Sys2Proof.Machine
end

