-- ==== Sys2Proof/Machine/TallyRequests.lean ====
section
/-! DEFINITION. Sys2Proof/Machine/TallyRequests.lean: the requests of the Load Tally (sections 4.6 to 4.8). -/

namespace Sys2Proof.Machine

open Sys2Proof

/-- The Assortment request (R87). -/
def assortmentOwner (r : Option Nat) (s : State) : Answer :=
  match r with
  | none => answerDone s (.assortment s.lt.assortment)
  | some n =>
    match finOf 16 n with
    | none => refuse .badField s
    | some a => answerDone (s.setLt { s.lt with assortment := a }) (.assortment a)

/-- The listed records from a number on (R92). -/
def recordsFrom (lifts : List LiftRecord) (from_ : Nat) : List LiftRecord := lifts.filter fun r => from_ ≤ r.number

/-- The Read lifts request (R92). -/
def readLiftsOwner (r : ReadLiftsRequest) (s : State) : Answer :=
  if !inRange 1 8 r.count then refuse .badField s
  else
    let found := recordsFrom s.lt.lifts r.from_
    answerDone s
      (.lifts (found.take r.count) (decide (r.count < found.length)) s.lt.lifts.length s.lt.counter)

/-- Trip figures of the current trip (R93). -/
def State.currentFigures (s : State) : CurrentFigures :=
  { number := s.lt.number
    counter := s.lt.counter
    assortment := s.lt.assortment
    lastUnlisted := s.lt.lastUnlisted
    listLength := s.lt.lifts.length
    estimate := s.lt.estimate
    payloadLimit := s.settings.payloadLimit
    warnLevel := warnLevelOf s.settings.payloadLimit
    payload := s.payload }

/-- Trip figures of a closed trip (R93). -/
def ClosedTrip.figures (c : ClosedTrip) : ClosedFigures :=
  { number := c.number
    counter := c.counter
    listLength := c.listLength
    estimate := c.estimate
    payloadLimit := c.payloadLimit }

/-- `count` entries of a table from `first` upward (R93). -/
def entriesFrom (table : Vector TallyEntry 16) (first count : Nat) : List TallyEntry :=
  (table.toList.drop first).take count

/-- The Read totals request (R93). -/
def readTotalsOwner (r : ReadTotalsRequest) (s : State) : Answer :=
  if !inRange 1 2 r.count || 15 < r.first || 16 < r.first + r.count then refuse .badField s
  else
    match r.selector with
    | .current => answerDone s (.totals (entriesFrom s.lt.table r.first r.count) (.current s.currentFigures))
    | .closed =>
      match s.lt.closed with
      | none => refuse .empty s
      | some c => answerDone s (.totals (entriesFrom c.table r.first r.count) (.closed c.figures))

/-- The trip record without its newest record (R89). -/
def Trip.undo (t : Trip) (r : LiftRecord) : Trip :=
  { t with
    lifts := t.lifts.dropLast
    table := setTotals t.table r.assortment r.direction ((t.table[r.assortment].dir r.direction).leave r) }.recompute

/-- The Undo last request (R89). -/
def undoLastOwner (_ : Unit) (s : State) : Answer :=
  match s.lt.lifts.getLast? with
  | none => refuse .empty s
  | some r =>
    if s.lt.lastUnlisted then refuse .unlisted s
    else answerDone (payloadTest s.payload (s.setLt (s.lt.undo r))) (.lift r)

/-- The record that carries a number (R90, R91). -/
def findLift (lifts : List LiftRecord) (number : Nat) : Option LiftRecord := lifts.find? fun r => r.number == number

/-- Replace the record that carries the number of `r` (R76, R90, R91). -/
def replaceLift (lifts : List LiftRecord) (r : LiftRecord) : List LiftRecord :=
  lifts.map fun x => if x.number = r.number then r else x

/-- The totals after a correction changes an effective mass (R90). -/
def DirTotals.correct (t : DirTotals) (oldMass newMass : Nat) : DirTotals :=
  { t with mass := t.mass + newMass - oldMass }

/-- The trip record after a record's correction is replaced (R90). -/
def Trip.corrected (t : Trip) (r r' : LiftRecord) : Trip :=
  { t with
    lifts := replaceLift t.lifts r'
    table := setTotals t.table r.assortment r.direction
      ((t.table[r.assortment].dir r.direction).correct r.contribution r'.contribution) }.recompute

/-- The Correct request (R85, R90). -/
def correctOwner (r : CorrectRequest) (s : State) : Answer :=
  if !inRange 1 65535 r.number || !inRangeInt (-500) 500 r.correction then refuse .badField s
  else
    match findLift s.lt.lifts r.number with
    | none => refuse .notFound s
    | some x =>
      if x.mass.isNone then refuse .noMass s
      else
        let x' := { x with correction := some r.correction }
        if !((s.lt.table[x.assortment].dir x.direction).correct x.contribution x'.contribution).fits then
          refuse .state s
        else
          answerDone (payloadTest s.payload (s.setLt (s.lt.corrected x x')))
            (.corrected x' x.contribution x'.contribution)

/-- The assortment table after a record's contributions move to another entry (R91). -/
def Trip.movedTable (t : Trip) (r : LiftRecord) (a : Fin 16) : Vector TallyEntry 16 :=
  let left := setTotals t.table r.assortment r.direction ((t.table[r.assortment].dir r.direction).leave r)
  setTotals left a r.direction ((left[a].dir r.direction).join r)

/-- The trip record after a reassignment (R91). -/
def Trip.reassigned (t : Trip) (r : LiftRecord) (a : Fin 16) : Trip :=
  { t with lifts := replaceLift t.lifts { r with assortment := a }, table := t.movedTable r a }

/-- The Reassign request (R85, R91). -/
def reassignOwner (r : ReassignRequest) (s : State) : Answer :=
  match inRange 1 65535 r.number, finOf 16 r.assortment with
  | true, some a =>
    match findLift s.lt.lifts r.number with
    | none => refuse .notFound s
    | some x =>
      if x.assortment = a then answerDone s (.lift x)
      else if !((s.lt.table[a].dir x.direction).join x).fits then refuse .state s
      else answerDone (s.setLt (s.lt.reassigned x a)) (.lift { x with assortment := a })
  | _, _ => refuse .badField s

/-- The flags of a manual lift: Manual alone (R88). -/
def manualFlags : LiftFlags := { extended := false, belowTare := false, manual := true, geometryUnknown := false }

/-- The Manual lift request (R88). -/
def manualLiftOwner (r : ManualRequest) (s : State) : Answer :=
  match finOf 16 r.assortment, optRange 0 4095 r.mass with
  | some a, true =>
    match fileLift r.direction a r.mass manualFlags s with
    | (s1, some ans) => answerDone s1 (.filed ans)
    | (_, none) => refuse .state s
  | _, _ => refuse .badField s

/-- The closed-trip summary of the current trip (R94 step 1). -/
def State.summary (s : State) : ClosedTrip :=
  { number := s.lt.number
    counter := s.lt.counter
    listLength := s.lt.lifts.length
    estimate := s.lt.estimate
    payloadLimit := s.settings.payloadLimit
    table := s.lt.table }

/-- The trip number advanced by one, from 65 535 to 1 (R94 step 4). -/
def nextTrip (n : Nat) : Nat := if n < 65535 then n + 1 else 1

/-- The trip record after a Trip close (R94). -/
def State.closedTrip (s : State) : Trip :=
  { number := nextTrip s.lt.number
    counter := 0
    assortment := s.lt.assortment
    lastUnlisted := false
    estimate := 0
    lifts := []
    table := Vector.replicate 16 emptyEntry
    closed := some s.summary }

/-- The Trip close request (R94). -/
def tripCloseOwner (_ : Unit) (s : State) : Answer :=
  answerDone (s.setLt s.closedTrip)
    (.tripClosed s.lt.number s.lt.counter s.lt.lifts.length s.lt.estimate (nextTrip s.lt.number))

/-- The fields of a Payload limit reply, as they now stand (R97). -/
def State.payloadReply (s : State) : ReplyBody :=
  .payload s.settings.payloadLimit (warnLevelOf s.settings.payloadLimit) s.lt.estimate s.payload

/-- The Payload limit request (R97). -/
def payloadLimitOwner (r : Option Nat) (s : State) : Answer :=
  match r with
  | none => answerDone s s.payloadReply
  | some limit =>
    if !inRange 1000 30000 limit then refuse .badField s
    else
      let s1 := payloadTest s.payload (s.setSettings { s.settings with payloadLimit := limit })
      answerDone s1 s1.payloadReply

/-- Meaning of ASSORTMENT (R87). -/
def execAssortment (dt : Nat) (s : State) : Host.Outcome State Fault Refusal :=
  execRequest dt 0x30#8 readOptU8 assortmentOwner s

/-- Meaning of READ_LIFTS (R92). -/
def execReadLifts (dt : Nat) (s : State) : Host.Outcome State Fault Refusal :=
  execRequest dt 0x31#8 readReadLifts readLiftsOwner s

/-- Meaning of READ_TOTALS (R93). -/
def execReadTotals (dt : Nat) (s : State) : Host.Outcome State Fault Refusal :=
  execRequest dt 0x32#8 readReadTotals readTotalsOwner s

/-- Meaning of UNDO_LAST (R89). -/
def execUndoLast (dt : Nat) (s : State) : Host.Outcome State Fault Refusal :=
  execRequest dt 0x33#8 readNothing undoLastOwner s

/-- Meaning of CORRECT (R90). -/
def execCorrect (dt : Nat) (s : State) : Host.Outcome State Fault Refusal :=
  execRequest dt 0x34#8 readCorrect correctOwner s

/-- Meaning of REASSIGN (R91). -/
def execReassign (dt : Nat) (s : State) : Host.Outcome State Fault Refusal :=
  execRequest dt 0x35#8 readReassign reassignOwner s

/-- Meaning of MANUAL_LIFT (R88). -/
def execManualLift (dt : Nat) (s : State) : Host.Outcome State Fault Refusal :=
  execRequest dt 0x36#8 readManual manualLiftOwner s

/-- Meaning of TRIP_CLOSE (R94). -/
def execTripClose (dt : Nat) (s : State) : Host.Outcome State Fault Refusal :=
  execRequest dt 0x37#8 readNothing tripCloseOwner s

/-- Meaning of PAYLOAD_LIMIT (R97). -/
def execPayloadLimit (dt : Nat) (s : State) : Host.Outcome State Fault Refusal :=
  execRequest dt 0x38#8 readOptU16 payloadLimitOwner s

end Sys2Proof.Machine
end

