-- ==== Sys2Proof/Machine/Dispatch.lean ====
section
/-! DEFINITION. Sys2Proof/Machine/Dispatch.lean: the meaning of every command, one arm for each row of
spec/opcode_table.json. -/

namespace Sys2Proof.Machine

open Sys2Proof

/-- The effect of a command on everything but the queue of waiting commands. -/
def exec (i : Instr) (s : State) : Host.Outcome State Fault Refusal :=
  match i with
  | .scan dt raw => Sys2Proof.Machine.execScan dt raw s
  | .detectLineChange dt level => Sys2Proof.Machine.execDetectLineChange dt level s
  | .debounceExpiry dt => Sys2Proof.Machine.execDebounceExpiry dt s
  | .powerOffTimeExpiry dt => Sys2Proof.Machine.execPowerOffTimeExpiry dt s
  | .linkSettleExpiry dt => Sys2Proof.Machine.execLinkSettleExpiry dt s
  | .identityReadEnd dt answer => Sys2Proof.Machine.execIdentityReadEnd dt answer s
  | .identityRetry dt => Sys2Proof.Machine.execIdentityRetry dt s
  | .poll dt => Sys2Proof.Machine.execPoll dt s
  | .pollCompletion dt answer => Sys2Proof.Machine.execPollCompletion dt answer s
  | .recoveryLineRead dt clock data => Sys2Proof.Machine.execRecoveryLineRead dt clock data s
  | .clockPulseEnd dt data => Sys2Proof.Machine.execClockPulseEnd dt data s
  | .drive dt => Sys2Proof.Machine.execDrive dt s
  | .demandExpiry dt sec => Sys2Proof.Machine.execDemandExpiry dt sec s
  | .suspendTimerExpiry dt => Sys2Proof.Machine.execSuspendTimerExpiry dt s
  | .drivePeriod dt currents => Sys2Proof.Machine.execDrivePeriod dt currents s
  | .driverTrip dt sec => Sys2Proof.Machine.execDriverTrip dt sec s
  | .supplySettleExpiry dt => Sys2Proof.Machine.execSupplySettleExpiry dt s
  | .idleTimerExpiry dt => Sys2Proof.Machine.execIdleTimerExpiry dt s
  | .byteReceived dt byte framingError => Sys2Proof.Machine.execByteReceived dt byte framingError s
  | .gapExpiry dt => Sys2Proof.Machine.execGapExpiry dt s
  | .frameSent dt => Sys2Proof.Machine.execFrameSent dt s
  | .unknownKind dt => Sys2Proof.Machine.execUnknownKind dt s
  | .status dt => Sys2Proof.Machine.execStatus dt s
  | .readChanges dt => Sys2Proof.Machine.execReadChanges dt s
  | .clearChanges dt => Sys2Proof.Machine.execClearChanges dt s
  | .changeConfig dt => Sys2Proof.Machine.execChangeConfig dt s
  | .sectionConfig dt => Sys2Proof.Machine.execSectionConfig dt s
  | .profileWrite dt => Sys2Proof.Machine.execProfileWrite dt s
  | .release dt => Sys2Proof.Machine.execRelease dt s
  | .faultClear dt => Sys2Proof.Machine.execFaultClear dt s
  | .arm dt => Sys2Proof.Machine.execArm dt s
  | .disarm dt => Sys2Proof.Machine.execDisarm dt s
  | .captureConfig dt => Sys2Proof.Machine.execCaptureConfig dt s
  | .assortment dt => Sys2Proof.Machine.execAssortment dt s
  | .readLifts dt => Sys2Proof.Machine.execReadLifts dt s
  | .readTotals dt => Sys2Proof.Machine.execReadTotals dt s
  | .undoLast dt => Sys2Proof.Machine.execUndoLast dt s
  | .correct dt => Sys2Proof.Machine.execCorrect dt s
  | .reassign dt => Sys2Proof.Machine.execReassign dt s
  | .manualLift dt => Sys2Proof.Machine.execManualLift dt s
  | .tripClose dt => Sys2Proof.Machine.execTripClose dt s
  | .payloadLimit dt => Sys2Proof.Machine.execPayloadLimit dt s
  | .zoneWrite dt => Sys2Proof.Machine.execZoneWrite dt s
  | .zoneEnable dt => Sys2Proof.Machine.execZoneEnable dt s
  | .zoneRead dt => Sys2Proof.Machine.execZoneRead dt s
  | .limiterConfig dt => Sys2Proof.Machine.execLimiterConfig dt s
  | .ratedWrite dt => Sys2Proof.Machine.execRatedWrite dt s
  | .linkStatus dt => Sys2Proof.Machine.execLinkStatus dt s
  | .linkReset dt => Sys2Proof.Machine.execLinkReset dt s
  | .calibrate dt => Sys2Proof.Machine.execCalibrate dt s
  | .tare dt => Sys2Proof.Machine.execTare dt s
  | .channelCalibration dt => Sys2Proof.Machine.execChannelCalibration dt s
  | .geometryConfig dt => Sys2Proof.Machine.execGeometryConfig dt s
  | .storeSettings dt => Sys2Proof.Machine.execStoreSettings dt s
  | .storeWriteCompletion dt checkMatches => Sys2Proof.Machine.execStoreWriteCompletion dt checkMatches s
  | .restartRequest dt => Sys2Proof.Machine.execRestartRequest dt s
  | .restart dt => Sys2Proof.Machine.execRestart dt s
  | .mainSupplyLoss dt => Sys2Proof.Machine.execMainSupplyLoss dt s
  | .standbySupplyLoss dt => Sys2Proof.Machine.execStandbySupplyLoss dt s
  | .standbySupplyReturn dt => Sys2Proof.Machine.execStandbySupplyReturn dt s

end Sys2Proof.Machine
end

