-- ==== Sys2Proof/Safety.lean ====
section
/-! DEFINITION. Sys2Proof/Safety.lean: what counts as a sound state of each block, and the terms the statements use. Each
`Sound` below is an invariant the manual states of the part between events; every step keeps it and the state after reset
has it (Certificates/Slice0/Obligations.lean). -/

namespace Sys2Proof.Machine

open Sys2Proof

/-! ### Requests and replies -/

/-- A request of this kind, tag and field bytes is next to be taken and can be: the main supply is present, the frame is
the oldest of the inbound queue, the outbound queue has room and no restart is pending (R180). -/
abbrev State.asked (s : State) (kind tag : Byte) (fields : List Byte) (rest : List InFrame) : Prop :=
  s.power.main = true ∧ s.clp.inbound = { kind := kind, tag := tag, fields := fields } :: rest ∧
    s.clp.outbound.length < 8 ∧ s.clp.restart = none

/-- The port after a request has been taken and answered (R180 steps 1 and 5). -/
def Clp.answered (c : Clp) (rest : List InFrame) (kind tag : Byte) (result : ResultCode) (body : ReplyBody) : Clp :=
  { c with inbound := rest, outbound := c.outbound ++ [.reply kind tag result body] }

/-- The state `dt` ms later, with a request taken and answered, and nothing else changed (R180). -/
def State.replied (s : State) (dt : Nat) (rest : List InFrame) (kind tag : Byte) (result : ResultCode)
    (body : ReplyBody) : State :=
  (s.tick dt).setClp (s.clp.answered rest kind tag result body)

/-! ### Tally (R76 to R79) -/

/-- The listed records of one assortment and direction. -/
def listedOf (lifts : List LiftRecord) (a : Fin 16) (d : LiftDirection) : List LiftRecord :=
  lifts.filter fun r => r.assortment == a && r.direction == d

/-- Every total agrees with the list and keeps within its 32 bits, and the estimate agrees with the totals (R78, R79, R85);
the list is bounded and its numbers rise strictly and have been given (R76, R80). -/
abbrev Trip.Sound (t : Trip) : Prop :=
  (∀ a : Fin 16, ∀ d ∈ [LiftDirection.load, LiftDirection.unload],
      (t.table[a].dir d).count = (listedOf t.lifts a d).length + (t.table[a].dir d).unlisted ∧
        (t.table[a].dir d).mass =
          ((listedOf t.lifts a d).map LiftRecord.contribution).sum + (t.table[a].dir d).unlistedMass ∧
        (t.table[a].dir d).fits) ∧
    t.estimate = tableEstimate t.table ∧ t.lifts.length ≤ 96 ∧ (t.lifts.map LiftRecord.number).Pairwise (· < ·) ∧
    (∀ r ∈ t.lifts, 1 ≤ r.number ∧ r.number ≤ t.counter) ∧ t.counter ≤ 65535

/-! ### Valve supply and coils (R157, R158, R163, R165) -/

/-- The supply: switch, lock cause and timers follow the supply state, and the times left shown in the coil record follow the
timers; outside ACTIVE every setpoint is 0; a fault record stands exactly in FAULT (R163, R165, R166, R168 to R170,
R172). -/
abbrev Cds.Sound (c : Cds) : Prop :=
  c.closed = (c.supply == .waking || c.supply == .active) ∧ (c.lockCause.isSome ↔ c.supply = .locked) ∧
    (c.settleDue.isSome ↔ c.supply = .waking) ∧ (c.idleDue.isSome → c.supply = .active) ∧
    (c.settleLeft.isSome ↔ c.settleDue.isSome) ∧ (c.idleLeft.isSome ↔ c.idleDue.isSome) ∧
    (c.supply ≠ .active → ∀ i : Fin 6, c.sections[i].setpoint = 0) ∧
    ∀ i : Fin 6, c.sections[i].state = .fault ↔ c.sections[i].fault.isSome

/-- The coils: one output for both blocks; a driven coil has its sign, no dead time left and is the active one; a setpoint
stands only on a driven coil; outside ACTIVE, and while the idle timer runs, every output is 0 (R140, R157 to R159,
R170). -/
abbrev State.CoilsSound (s : State) : Prop :=
  ∀ i : Fin 6,
    s.cds.sections[i].output = s.dsh[i].output ∧ s.cds.sections[i].active = s.cds.sections[i].state.coil ∧
      (s.cds.sections[i].state = .driveA → 0 < s.dsh[i].output) ∧
      (s.cds.sections[i].state = .driveB → s.dsh[i].output < 0) ∧
      (s.cds.sections[i].state.drives → s.cds.sections[i].dead = 0) ∧
      (s.cds.sections[i].setpoint ≠ 0 → s.cds.sections[i].state.drives) ∧
      (s.cds.supply ≠ .active → s.dsh[i].output = 0) ∧ (s.cds.idleDue.isSome → s.dsh[i].output = 0)

/-! ### Settings (the ranges of sections 1.2, 1.4, 2.7, 3.9, 4.8, 5.1, 6.9, 7.7) -/

/-- Every stored field of a zone lies in its range, and an enabled zone is ordered (R110, R111). -/
abbrev Zone.Sound (z : Zone) : Prop :=
  (z.enable → z.ordered) ∧ inRangeInt (-1900) 1900 z.slewStart ∧ inRangeInt (-1900) 1900 z.slewStop ∧
    z.reachMin ≤ 12000 ∧ z.reachMax ≤ 12000 ∧ z.slow ≤ 1000 ∧ z.guard ≤ 300

/-- Every setting of a section lies in its range and they agree (R151). -/
abbrev SectionSettings.Sound (c : SectionSettings) : Prop :=
  inRange 1 1000 c.upStep ∧ inRange 1 1000 c.downStep ∧ c.startIndex ≤ 15 ∧ inRange 1 255 c.stepDivider ∧
    c.deadTime ≤ 3 ∧ c.iMin ≤ 1500 ∧ inRange 100 2500 c.iMax ∧ c.consistent

/-- Every capture setting lies in its range (R71). -/
abbrev CaptureSettings.Sound (c : CaptureSettings) : Prop :=
  inRange 50 900 c.gripThreshold ∧ inRange 100 2000 c.holdTime ∧ inRange 50 900 c.liftThreshold ∧
    inRange 16 255 c.budget ∧ c.maxExtensions ≤ 3 ∧ inRange 8 64 c.extensionSize ∧ inRange 1 255 c.rejectLimit ∧
    inRange 5 100 c.swingLimit ∧ inRange 50 2000 c.spreadLimit ∧ inRange 500 10000 c.suspendTime

/-- Every limiter setting lies in its range, and limit_on lies above warn_on (R131). -/
abbrev LimiterSettings.Sound (c : LimiterSettings) : Prop :=
  inRange 500 990 c.warnOn ∧ inRange 600 1200 c.limitOn ∧ c.warnOn < c.limitOn ∧ c.hyst ≤ 200 ∧ c.derate ≤ 300 ∧
    inRange 1 50000 c.pistonArea ∧ inRange 1 50000 c.rodArea ∧ inRange 100 3000 c.lever

/-- Every working setting lies in its range. -/
abbrev Settings.Sound (x : Settings) : Prop :=
  (∀ n : Fin 9, calOk n x.cal[n]) ∧ x.geometry.pillar ≤ 1000 ∧ inRange 1000 8000 x.geometry.mainLen ∧
    inRange 1000 8000 x.geometry.outerLen ∧ inRange 900 1100 x.calRecord.trim ∧ x.calRecord.tare ≤ 2000 ∧
    (x.calRecord.tareDone → x.calRecord.bound.isSome) ∧ x.capture.Sound ∧ inRange 1000 30000 x.payloadLimit ∧
    (∀ i : Fin 8, x.zones[i].Sound) ∧ x.limiter.Sound ∧ (∀ i : Fin 9, inRange 1000 999999 x.rated[i]) ∧
    (∀ i : Fin 6, x.sections[i].Sound) ∧ inRange 50 500 x.common.expiryTime ∧ inRange 1 600 x.common.idleTime ∧
    inRange 20 500 x.common.settleTime ∧ ∀ t : Fin 3, ∀ k : Fin 16, x.profiles[t][k] ≤ 1000

/-- The working settings, both stored images and the image being written lie in their ranges (R193, R195, R196). -/
abbrev State.SettingsSound (s : State) : Prop :=
  s.settings.Sound ∧ (∀ i : Fin 2, ∀ m ∈ s.ssr.slots[i], m.image.Sound) ∧ ∀ w ∈ s.ssr.write, w.image.Sound

/-! ### Factors and magnitudes (R129, R135, R140, R141) -/

/-- Every factor lies within 0..1 000‰, and so does the magnitude of every demand, target and output. -/
abbrev State.MagnitudesSound (s : State) : Prop :=
  s.evm.slow ≤ 1000 ∧ s.evm.slewA ≤ 1000 ∧ s.evm.slewB ≤ 1000 ∧ s.mlm.factor ≤ 1000 ∧
    ∀ i : Fin 6,
      s.dsh[i].held.natAbs ≤ 1000 ∧ s.dsh[i].t0.natAbs ≤ 1000 ∧ s.dsh[i].target.natAbs ≤ 1000 ∧
        s.dsh[i].output.natAbs ≤ 1000 ∧ s.dsh[i].record.output.natAbs ≤ 1000

/-! ### Weigh link and engine (R22, R23, R26, R31 to R37, R47, R54, R57, R61, R65) -/

/-- The activities a link state can be in the middle of, with the head supply switch on or off. -/
def linkFits (st : LinkState) (supply : Bool) (a : LinkActivity) : Bool :=
  match st, supply, a with
  | .absent, false, .none | .failed, false, .none => true
  | .powering, false, .offTime _ | .powering, true, .settling _ => true
  | .identifying, true, .reading _ | .identifying, true, .retryWait _ => true
  | .running, true, .polling _ _ | .running, true, .pollWait _ => true
  | .recovering, true, .lineRelease _ => true
  | .recovering, true, .pulsing k _ => 1 ≤ k && k ≤ 9
  | _, _, _ => false

/-- What stands last on the clock and data lines in the middle of an activity: they are released while nothing goes on, in
POWERING and before the lines are read; a read, a poll and a pulse have sent their signal (R21, R23, R25, R27, R33, R35). -/
def sentFits (a : LinkActivity) (sent : List LinkSignal) : Bool :=
  match a with
  | .none | .offTime _ | .settling _ | .lineRelease _ => sent == [.release]
  | .reading _ | .retryWait _ => sent.getLast? == some .identityRequest
  | .polling _ _ | .pollWait _ => sent == [.sampleRequest]
  | .pulsing _ _ => sent == [.clockPulse]

/-- The link: its state fits its activity and switch, and the two lines its activity; the identity is held in RUNNING and
RECOVERING, samples and forces in RUNNING alone; a cause stands in FAILED alone; without a head it is ABSENT. -/
abbrev Wlc.Sound (w : Wlc) : Prop :=
  linkFits w.state w.supply w.activity ∧ sentFits w.activity w.sent ∧
    (w.identity.isSome ↔ w.state = .running ∨ w.state = .recovering) ∧
    (w.latest.isSome → w.state = .running) ∧ (w.ring ≠ [] → w.state = .running) ∧ w.ring.length ≤ 8 ∧
    (w.cause ≠ .none ↔ w.state = .failed) ∧ w.history.length ≤ 2 ∧ w.failures ≤ 3 ∧
    (w.state = .running → w.failures < 3) ∧ (w.state = .identifying → w.failedReads < 3) ∧ w.nextPoll ≤ 65535 ∧
    (w.detect = false → w.state = .absent)

/-- The engine: a pending lift exists exactly in HELD, an origin exactly while a grip is open, the suspend timer runs exactly
in SUSPENDED, samples are held only while a capture runs; a capture runs only on a RUNNING link with a valid record, a tare
only on a RUNNING link with the engine IDLE. -/
abbrev State.EngineSound (s : State) : Prop :=
  (s.wce.held.isSome ↔ s.wce.state = .held) ∧ (s.wce.origin.isSome ↔ s.wce.state ≠ .idle) ∧
    (s.wce.suspendDue.isSome ↔ s.wce.state = .suspended) ∧ s.wce.window.length ≤ 32 ∧
    (¬s.wce.capturing → s.wce.window = []) ∧ s.wce.grip ≤ 65535 ∧
    (s.wce.capturing → s.wlc.state = .running ∧ s.calValid) ∧
    (s.wlc.tare.state = .running → s.wlc.state = .running ∧ s.wce.state = .idle)

/-! ### Masses (R56, R62 to R65, R77) -/

/-- A mass a lift can have. -/
def massOk (m : Option Nat) : Bool := m.all (· ≤ 4095)

/-- The net mass a pending lift would hand over. -/
def PendingLift.net (p : PendingLift) : Option Nat := p.outcome.masses.map WeighedMass.net

/-- Every force in the window lies within 0..40 000 N, and every mass held or listed within 0..4 095 kg. -/
abbrev State.MassesSound (s : State) : Prop :=
  (∀ x ∈ s.wce.window, inRangeInt 0 40000 x.force) ∧ (∀ p ∈ s.wce.held, massOk p.net) ∧
    ∀ r ∈ s.lt.lifts, massOk r.mass

/-! ### Cab link (R177, R179, R182, R183, R187) -/

/-- The receiver holds only a beginning of a frame. -/
def Receiver.fits (r : Receiver) : Bool :=
  match r with
  | .hunting | .inFrame [] _ => true
  | .inFrame (length :: more) _ => 1 ≤ length.toNat && length.toNat ≤ 120 && more.length + 1 < frameLeft length.toNat

/-- The queues, the counts and the report number stay within their bounds. -/
abbrev Clp.Sound (c : Clp) : Prop :=
  c.receiver.fits ∧ c.inbound.length ≤ 4 ∧ (∀ f ∈ c.inbound, f.fields.length ≤ 119) ∧ c.outbound.length ≤ 8 ∧
    c.reportNumber ≤ 255 ∧ c.discards.length ≤ 65535 ∧ c.discards.gap ≤ 65535 ∧ c.discards.framing ≤ 65535 ∧
    c.discards.check ≤ 65535 ∧ c.discards.full ≤ 65535

/-- Only enabled sources are members of the change set (R187). -/
abbrev State.ChangesSound (s : State) : Prop := s.clp.changeSet &&& ~~~s.settings.enables = 0#16

/-! ### Stored images (R195 to R197) -/

/-- The other slot. -/
def otherSlot (i : Fin 2) : Fin 2 := if i = 0 then 1 else 0

/-- The store: a write is in progress exactly in WRITING, into the bad slot that is not current, with the number after the
current image's; the current slot is good; two good slots hold consecutive numbers, the current one's the later. -/
abbrev Ssr.Sound (r : Ssr) : Prop :=
  (r.write.isSome ↔ r.store = .writing) ∧
    (∀ w ∈ r.write, w.target = r.target ∧ w.sequence = r.nextSequence ∧ r.slots[w.target] = none) ∧
    (∀ i : Fin 2, ∀ m ∈ r.slots[i], m.sequence ≤ 65535) ∧
    (r.current = none → ∀ i : Fin 2, r.slots[i] = none) ∧
    ∀ i ∈ r.current, r.slots[i].isSome ∧
      ∀ m ∈ r.slots[i], ∀ x ∈ r.slots[otherSlot i], m.sequence = (x.sequence + 1) % 65536

/-! ### Limiter and sensors (R5, R10, R124, R129, R130) -/

/-- The limiter record: outside LIMIT there is a moment; in LIMIT the factor is 0, in NORMAL 1 000‰; u and the moment stay
within their ranges. -/
abbrev LimiterRecord.Sound (r : LimiterRecord) : Prop :=
  (r.state.isLimit → r.factor = 0) ∧ (r.state = .normal → r.factor = 1000) ∧ r.factor ≤ 1000 ∧
    (r.figures = none → r.state.isLimit ∧ r.state ≠ .limit .moment) ∧
    ∀ f ∈ r.figures, f.u ≤ 1999 ∧ f.moment ≤ 999999

/-- The sensors: every value lies in its channel's range, the counts fit the states, and the record shows the channels; the
reach lies within 0..12 000 mm. -/
abbrev Ssu.Sound (u : Ssu) : Prop :=
  (∀ n : Fin 9,
      inRangeInt (channelMin n) (channelMax n) u.channels[n].value ∧
        (u.channels[n].state = .good → u.channels[n].bad = 0) ∧
        (u.channels[n].state = .hold → 1 ≤ u.channels[n].bad ∧ u.channels[n].bad ≤ 5) ∧
        (u.channels[n].state = .lost → u.channels[n].bad = 6 ∧ u.channels[n].good ≤ 9) ∧
        u.record.channels[n] = { state := u.channels[n].state, value := u.channels[n].value }) ∧
    u.record.reach ≤ 12000 ∧ (u.record.tipValid = true ↔ tipIsValid u.channels = true) ∧
    (u.record.substituted = true ↔ tiltLost u.channels = true)

/-! ### The latches of an event, as the statements name them -/

/-- `s` with the latches of a scan that leads from it to `t`, in the order of R1 and of the limiter after it: ChannelLost
when a channel entered LOST (R7), ZoneIntrusion when the flag rose (R107), LimiterWarn and LimiterLimit when the limiter
entered WARN and LIMIT (R128). -/
def State.scanLatches (s t : State) : State :=
  let a :=
    if ∃ n : Fin 9, s.ssu.channels[n].state ≠ .lost ∧ t.ssu.channels[n].state = .lost then latch .channelLost s else s
  let b := if s.evm.intrusion = false ∧ t.evm.intrusion = true then latch .zoneIntrusion a else a
  let c := if s.mlm.state ≠ .warn ∧ t.mlm.state = .warn then latch .limiterWarn b else b
  if (s.mlm.state = .normal ∨ s.mlm.state = .warn) ∧ t.mlm.state ≠ .normal ∧ t.mlm.state ≠ .warn then
    latch .limiterLimit c
  else c

/-- `s` with the latches of a drive period that leads from it to `t`: CoilFault when a section entered FAULT (R163), then
SupplyLocked when the supply entered LOCKED (R165). -/
def State.periodLatches (s t : State) : State :=
  let a :=
    if ∃ i : Fin 6, s.cds.sections[i].state ≠ .fault ∧ t.cds.sections[i].state = .fault then latch .coilFault s else s
  if s.cds.supply ≠ .locked ∧ t.cds.supply = .locked then latch .supplyLocked a else a

end Sys2Proof.Machine
end

