-- ==== Sys2Proof/Certificates/Slice0/Obligations.lean ====
section
/-! DEFINITION. Sys2Proof/Certificates/Slice0/Obligations.lean: what the provers are asked to prove of the model. A next
state is given whole wherever it is written as an equation; elsewhere the clauses that name what stands unchanged are its
frame. -/

open Sys2Proof Sys2Proof.Machine

/-! ### The machine -/

/-- A step runs the command at the front of the queue on the state with the queue's rest; on an empty queue the block idles
(95; the idling is the model's choice, log entry 19). -/
def Obligations.StepRunsFrontCommand : Prop :=
  (∀ (c : Instr) (rest : List Instr) (s : State), s.pending = c :: rest → step s = exec c (s.setPending rest)) ∧
    ∀ s : State, s.pending = [] → step s = .next s

/-- Every command completes in every state: none stops the part, none touches the queue of waiting commands, time does not
run back, and only the four supply commands change a supply; without the main supply every other command changes nothing but
the clock, and a change of the detect line the level of its pin too. That an event that cannot happen, a request that cannot
be taken and an unpowered part still complete is the model's choice (log entries 2, 3 and 7; the clock: 1; the queue: 19)
(95, R194, R198). -/
def Obligations.EveryCommandCompletes : Prop :=
  ∀ (c : Instr) (s : State),
    ∃ t : State,
      exec c s = .next t ∧ t.pending = s.pending ∧ s.now ≤ t.now ∧
        ((∀ dt, c ≠ .restart dt ∧ c ≠ .mainSupplyLoss dt ∧ c ≠ .standbySupplyLoss dt ∧ c ≠ .standbySupplyReturn dt) →
          t.power = s.power ∧
            (s.power.main = false → (∀ dt level, c ≠ .detectLineChange dt level) → t = { s with now := t.now }) ∧
            ∀ dt level,
              s.power.main = false → c = .detectLineChange dt level →
                t = { s with now := t.now, wlc := { s.wlc with detectLine := level } })

/-- The state after reset: what the restart rules give every block at the COLD restart of a part with both slots bad, the
tally empty at trip 1 in state NORMAL, and every working setting at its default: calibrations and geometry (R18), the
calibration record and auto power (section 2.7, R44), capture (R72), payload limit (R99), zones (R114), limiter, areas, lever
and rated table (R133), sections with their classes, common settings and profile tables (R142, R154), enables and acknowledge
mode (R191). That reset is this restart, with the standby supply present and the detect line low, is the model's choice (log
entry 4), and so are the model's own fields (log entries 1, 11, 19, 27, 41), the failed reads (28) and the section record
before the first drive period (36) (R18, R19, R44, R72, R74, R99, R114, R115, R133, R134, R142, R154, R155, R174, R191, R195,
R198, R200). -/
def Obligations.ResetValues : Prop :=
  let s := State.reset
  (∀ n : Fin 9,
      s.ssu.channels[n] = { state := .good, value := 0, bad := 0, good := 0 } ∧
        s.ssu.record.channels[n] = { state := .good, value := 0 }) ∧
    s.ssu.record =
      { channels := s.ssu.record.channels, slew := 0, reach := 7650, tipValid := true, artic := 0, tilt := 0
        substituted := false } ∧
    s.wlc =
      { state := .absent, cause := .none, detectLine := false, detect := false, debounceDue := none, supply := false
        activity := .none, sent := [.release], identity := none, failedReads := 0, failures := 0, history := []
        nextPoll := 0, latest := none, ring := [], tare := { state := .none, accepted := 0, rejected := 0, sum := 0 } } ∧
    s.wce =
      { state := .idle, grip := 0, closureRun := none, openEdge := false, preArm := false, origin := none
        validityRead := false, remaining := 0, extLeft := 0, rejects := 0, accepted := 0, extUsed := 0, extended := false
        window := [], suspendDue := none, held := none } ∧
    s.lt =
      { number := 1, counter := 0, assortment := 0, lastUnlisted := false, estimate := 0, lifts := [], table := s.lt.table
        closed := none } ∧
    (∀ a : Fin 16,
      s.lt.table[a] =
        { loads := { count := 0, weighed := 0, mass := 0, unlisted := 0, unlistedMass := 0 }
          unloads := { count := 0, weighed := 0, mass := 0, unlisted := 0, unlistedMass := 0 } }) ∧
    s.payload = .normal ∧ (∀ i : Fin 8, s.evm.zones[i] = { bounds := none, membership := .unknown, armed := false }) ∧
    s.evm.bunk = .unknown ∧ s.evm.slow = 1000 ∧ s.evm.slewA = 1000 ∧ s.evm.slewB = 1000 ∧
    s.evm.intrusion = false ∧ s.mlm = { source := .none, figures := none, state := .limit .starting, factor := 0 } ∧
    (∀ i : Fin 6,
      s.dsh[i] =
          { held := 0, expiryDue := none, expired := true, disabled := false, latch := true, t0 := 0, target := 0
            output := 0, requested := .none, running := false, index := 0, divider := 0
            record :=
              { held := 0, expired := true, timeToExpiry := none, latch := true, mode := .regular, t0 := 0, target := 0
                output := 0, requested := .none, running := false, index := 0, divider := 0 } } ∧
        s.cds.sections[i] =
          { state := .blocked, output := 0, active := .none, setpoint := 0, measured := 0, dead := 2, opens := 0
            fault := none }) ∧
    s.cds =
      { sections := s.cds.sections, supply := .locked, closed := false, lockCause := some .restart, settleDue := none
        idleDue := none, settleLeft := none, idleLeft := none } ∧
    s.clp =
      { receiver := .hunting, inbound := [], outbound := [.report 0 (.change .settingsDefaulted 0x8000#16)]
        reportNumber := 1, discards := { length := 0, gap := 0, framing := 0, check := 0, full := 0 }
        changeSet := 0x8000#16, restart := none, line := [] } ∧
    (∀ n : Fin 9, s.settings.cal[n].rawLo = 80 ∧ s.settings.cal[n].rawHi = 4015) ∧
    s.settings.cal.toList.map (fun c => (c.valLo, c.valHi)) =
      [(-1900, 1900), (-300, 800), (-800, 800), (0, 2400), (-350, 350), (-350, 350), (-450, 450), (0, 3500), (0, 3500)] ∧
    s.settings.geometry = { pillar := 350, mainLen := 4200, outerLen := 3100 } ∧
    s.settings.calRecord = { bound := none, trim := 1000, tare := 0, tareDone := false } ∧ s.settings.autoPower = true ∧
    s.settings.capture =
      { gripThreshold := 200, holdTime := 300, autoArm := true, liftThreshold := 150, budget := 48, maxExtensions := 2
        extensionSize := 16, rejectLimit := 100, swingLimit := 30, spreadLimit := 400, suspendTime := 3000 } ∧
    s.settings.payloadLimit = 12000 ∧
    (∀ i : Fin 8,
      s.settings.zones[i] =
        { enable := false, kind := .slow, chassis := .rear, slewStart := -1900, slewStop := 1900, reachMin := 0
          reachMax := 12000, slow := 1000, guard := 0 }) ∧
    s.settings.limiter =
      { warnOn := 850, limitOn := 1000, hyst := 30, derate := 100, pistonArea := 12272, rodArea := 8424, lever := 700 } ∧
    s.settings.rated.toList = [98000, 96000, 94000, 92000, 90000, 86000, 78000, 70000, 62000] ∧
    (∀ i : Fin 6,
      s.settings.sections[i] =
        { mode := .regular, upStep := 20, downStep := 40, stopMode := .soft
          classA := if i = 3 then .raising else .neutral, classB := if i = 1 ∨ i = 2 then .raising else .neutral
          range := .full, startIndex := 0, stepDivider := 10, endMode := .autostop, deadTime := 2, iMin := 300
          iMax := 1200 }) ∧
    s.settings.common = { expiryTime := 150, idleTime := 30, settleTime := 100 } ∧
    (∀ (n : Fin 3) (k : Fin 16), s.settings.profiles[n][k] = 250 + 50 * k.val) ∧
    s.settings.enables = 0xFFFF#16 ∧ s.settings.ackMode = .clearOnRead ∧
    s.ssr =
      { retainedGood := true, slots := s.ssr.slots, current := none, store := .idle, write := none, lastRestart := .cold } ∧
    (∀ i : Fin 2, s.ssr.slots[i] = none) ∧ s.power = { main := true, standby := true } ∧ s.now = 0 ∧ s.pending = []

/-- The state after reset is sound in every block. -/
def Obligations.ResetIsSound : Prop :=
  let s := State.reset
  s.lt.Sound ∧ s.cds.Sound ∧ s.CoilsSound ∧ s.SettingsSound ∧ s.MagnitudesSound ∧ s.wlc.Sound ∧ s.EngineSound ∧
    s.MassesSound ∧ s.clp.Sound ∧ s.ChangesSound ∧ s.ssr.Sound ∧ s.mlm.Sound ∧ s.ssu.Sound

/-! ### What every step keeps -/

/-- Every step keeps the tally: totals, list and estimate agree (R76, R78, R79). -/
def Obligations.StepKeepsTally : Prop := ∀ s t : State, s.lt.Sound → step s = .next t → t.lt.Sound

/-- Every step keeps the valve supply and the coils sound: the switch follows the state, no setpoint stands outside ACTIVE
or on a section that is not driven, a driven coil has the sign of its output and no dead time left, and the times left that
the coil record shows stand exactly while their timers run (R140, R157 to R159, R163, R165, R172). -/
def Obligations.StepKeepsCoils : Prop :=
  ∀ s t : State, s.cds.Sound → s.CoilsSound → step s = .next t → t.cds.Sound ∧ t.CoilsSound

/-- Every step keeps every setting, stored or working, in its range, and every enabled zone ordered (R111, R193 to
R197). -/
def Obligations.StepKeepsSettings : Prop := ∀ s t : State, s.SettingsSound → step s = .next t → t.SettingsSound

/-- Every step keeps every factor within 0..1 000‰ and the magnitude of every demand, target and output too (R129, R135,
R140, R141). -/
def Obligations.StepKeepsMagnitudes : Prop :=
  ∀ s t : State, s.SettingsSound → s.MagnitudesSound → step s = .next t → t.MagnitudesSound

/-- Every step keeps the weigh link and the engine sound: a capture runs only on a RUNNING link with a valid calibration
record, a pending lift stands exactly in HELD, and the signal last put on the link's two lines fits its activity, in the
model's own field (log entry 41) (R31 to R37, R47, R57, R61, R65). -/
def Obligations.StepKeepsLinkAndEngine : Prop :=
  ∀ s t : State, s.wlc.Sound → s.EngineSound → step s = .next t → t.wlc.Sound ∧ t.EngineSound

/-- Every step keeps every force in the window within 0..40 000 N, and every mass held or listed within 0..4 095 kg (R56,
R62 to R65, R77). -/
def Obligations.StepKeepsMasses : Prop := ∀ s t : State, s.MassesSound → step s = .next t → t.MassesSound

/-- Every step keeps the queues, the receiver and the counts of the cab link within their bounds, and the change set within
the enabled sources (R177, R179, R182, R183, R187). -/
def Obligations.StepKeepsPort : Prop :=
  (∀ s t : State, s.clp.Sound → step s = .next t → t.clp.Sound) ∧
    ∀ s t : State, s.ChangesSound → step s = .next t → t.ChangesSound

/-- Every step keeps the stored images sound: the current slot is good, a write goes to the other one, and two good slots
hold consecutive numbers (R195 to R197). -/
def Obligations.StepKeepsStore : Prop := ∀ s t : State, s.ssr.Sound → step s = .next t → t.ssr.Sound

/-- Every step keeps the limiter record and the sensors sound: factor 0 in LIMIT and 1 000‰ in NORMAL, channel counts that
fit the channel states, values in their ranges (R5, R10, R11, R14, R124, R129). -/
def Obligations.StepKeepsLimiterAndSensors : Prop :=
  ∀ s t : State,
    s.mlm.Sound → s.ssu.Sound → step s = .next t → t.mlm.Sound ∧ t.ssu.Sound

/-- No step takes a section from one coil to the other, and a dead-time count runs down only at drive periods, by one each,
whatever else happens, until a restart sets it afresh (R157, R158). -/
def Obligations.CoilsArePartedByDeadTime : Prop :=
  ∀ (c : Instr) (s t : State) (i : Fin 6),
    s.cds.Sound → s.CoilsSound → exec c s = .next t →
      ¬(s.cds.sections[i].state = .driveA ∧ t.cds.sections[i].state = .driveB) ∧
        ¬(s.cds.sections[i].state = .driveB ∧ t.cds.sections[i].state = .driveA) ∧
        ((∀ dt, c ≠ .restart dt) → (∀ dt currents, c ≠ .drivePeriod dt currents) →
          s.cds.sections[i].dead ≤ t.cds.sections[i].dead) ∧
        ((∀ dt, c ≠ .restart dt) → s.cds.sections[i].dead ≤ t.cds.sections[i].dead + 1)

/-- A request refused with any code from 2 up changes nothing: of the whole state, only the clock, the two queues and the
validity the engine has just read differ (9.5; the validity read is the model's reading of R73, log entry 10). -/
def Obligations.RefusedRequestChangesNothing : Prop :=
  ∀ (c : Instr) (s t : State) (kind tag : Byte) (code : ResultCode) (body : ReplyBody),
    exec c s = .next t → t.clp.outbound[s.clp.outbound.length]? = some (.reply kind tag code body) →
      code ≠ .done → code ≠ .accepted →
        t =
          { s with
            now := t.now
            clp :=
              { s.clp with
                inbound := s.clp.inbound.tail
                outbound := s.clp.outbound ++ [.reply kind tag code body] }
            wce := { s.wce with validityRead := t.wce.validityRead } }

/-! ### Arithmetic and the line's encodings -/

/-- The roundings of 00 section 5.2, for every positive divisor: the half away from zero and the half up are the nearest
integers with their ties so decided, the floor and the truncation the neighbours they name. -/
def Obligations.RoundingsAreNearest : Prop :=
  ∀ n d : Int, 0 < d →
    (2 * |roundHalfAway n d * d - n| ≤ d ∧ (2 * |roundHalfAway n d * d - n| = d → |n| < |roundHalfAway n d * d|)) ∧
      (2 * |roundHalfUp n d * d - n| ≤ d ∧ (2 * |roundHalfUp n d * d - n| = d → n < roundHalfUp n d * d)) ∧
      (floorDiv n d * d ≤ n ∧ n < floorDiv n d * d + d) ∧
      (|truncDiv n d * d| ≤ |n| ∧ |n| < |truncDiv n d * d| + d ∧ 0 ≤ truncDiv n d * n)

/-- The CRC of the length, kind, payload and the two check bytes of a correct frame is 0, and the CRC of the ASCII digits 1
to 9 is 0x29B1; the CRC-8 of a correct record of the link with its check is 0, and that of the one byte 1 is its polynomial
x² + x + 1, 0x07 (R24, R178). -/
def Obligations.CheckOfCorrectFrameIsZero : Prop :=
  (∀ body : List Byte, crc16 (body ++ bytesOf16 (crc16 body)) = 0#16) ∧
    crc16 [0x31#8, 0x32#8, 0x33#8, 0x34#8, 0x35#8, 0x36#8, 0x37#8, 0x38#8, 0x39#8] = 0x29B1#16 ∧
    (∀ body : List Byte, crc8 (body ++ [crc8 body]) = 0#8) ∧ crc8 [0x01#8] = 0x07#8

/-- A number written in n bytes, most significant first, reads back as itself: unsigned when it is below 256ⁿ, and signed in
two bytes when it lies in −32 768..+32 767; so the fields of a Drive are its six demands of two bytes each, the enable and
the halt, whatever their values, and a payload of any other length does not decode (R135, R181). -/
def Obligations.NumbersAndDriveFieldsReadBack : Prop :=
  (∀ n x : Nat, x < 256 ^ n → natOfBytes (natBytes n x) = x ∧ (natBytes n x).length = n) ∧
    (∀ x : Int, -32768 ≤ x → x ≤ 32767 → intOfBytes (intBytes 2 x) = x ∧ (intBytes 2 x).length = 2) ∧
    (∀ (a b c d e f : Int) (enable halt : Byte),
      (∀ x ∈ [a, b, c, d, e, f], -32768 ≤ x ∧ x ≤ 32767) →
        decodeAll readDrive
            (intBytes 2 a ++ intBytes 2 b ++ intBytes 2 c ++ intBytes 2 d ++ intBytes 2 e ++ intBytes 2 f ++
              [enable, halt]) =
          some { demands := [a, b, c, d, e, f], enable := enable.toNat, halt := halt.toNat }) ∧
    ∀ bytes : List Byte, bytes.length ≠ 14 → decodeAll readDrive bytes = none

/-- The bytes of a correct request frame, each within 5 ms of the one before, reach the hunting receiver: when the last of
them has been taken the frame stands at the end of the inbound queue, or, with 4 frames there, is counted as Full, and
nothing else has changed (R175 to R179). -/
def Obligations.CorrectFrameIsReceived : Prop :=
  ∀ (s : State) (kind tag : Byte) (fields : List Byte) (gaps : List Nat),
    s.power.main = true → s.clp.receiver = .hunting → fields.length ≤ 119 →
      gaps.length = fields.length + 6 → (∀ g ∈ gaps, g ≤ 5) →
        s.pending = List.zipWith (fun g b => Instr.byteReceived g b false) gaps (frameBytes kind (tag :: fields)) →
          Sys2Proof.core.run (fields.length + 6) s =
            .next
              { s with
                now := s.now + gaps.sum
                pending := []
                clp :=
                  if s.clp.inbound.length < 4 then
                    { s.clp with inbound := s.clp.inbound ++ [{ kind := kind, tag := tag, fields := fields }] }
                  else
                    { s.clp with
                      discards := { s.clp.discards with full := (s.clp.discards.full + 1) % 65536 } } }

/-! ### Cab link -/

/-- BYTE_RECEIVED, every form: hunting, a start marker without a framing error begins a frame and any other byte is
ignored; in a frame, not after its gap, a framing error discards it, a length of 0 or above 120 discards it, and a byte that
does not complete it joins it; a byte that completes it with a failed check discards it by Check (R175, R177, R178). The
byte that completes a correct frame is `CorrectFrameIsReceived`. -/
def Obligations.ByteReceivedMovesReceiver : Prop :=
  ∀ (s : State) (dt : Nat) (b : Byte) (framingError : Bool),
    s.power.main = true →
      (s.clp.receiver = .hunting →
        exec (.byteReceived dt b framingError) s =
          .next
            { s with
              now := s.now + dt
              clp :=
                { s.clp with
                  receiver := if b = 0x7E#8 ∧ framingError = false then .inFrame [] (s.now + dt) else .hunting } }) ∧
        ∀ (taken : List Byte) (latest : Nat),
          s.clp.receiver = .inFrame taken latest →
            (s.now + dt ≤ latest + 5 → framingError = true →
              exec (.byteReceived dt b framingError) s =
                .next
                  { s with
                    now := s.now + dt
                    clp :=
                      { s.clp with
                        receiver := .hunting
                        discards := { s.clp.discards with framing := (s.clp.discards.framing + 1) % 65536 } } }) ∧
              (s.now + dt ≤ latest + 5 → framingError = false → taken = [] → (b.toNat = 0 ∨ 120 < b.toNat) →
                exec (.byteReceived dt b framingError) s =
                  .next
                    { s with
                      now := s.now + dt
                      clp :=
                        { s.clp with
                          receiver := .hunting
                          discards := { s.clp.discards with length := (s.clp.discards.length + 1) % 65536 } } }) ∧
              (s.now + dt ≤ latest + 5 → framingError = false →
                ((taken = [] ∧ 1 ≤ b.toNat ∧ b.toNat ≤ 120) ∨
                    ∃ length more, taken = length :: more ∧ taken.length + 1 < length.toNat + 4) →
                  exec (.byteReceived dt b framingError) s =
                    .next
                      { s with
                        now := s.now + dt
                        clp := { s.clp with receiver := .inFrame (taken ++ [b]) (s.now + dt) } }) ∧
              (∀ length more,
                s.now + dt ≤ latest + 5 → framingError = false → taken = length :: more →
                  length.toNat + 4 ≤ taken.length + 1 →
                    bytesOf16 (crc16 ((taken ++ [b]).take (taken.length - 1))) ≠ (taken ++ [b]).drop (taken.length - 1) →
                      exec (.byteReceived dt b framingError) s =
                        .next
                          { s with
                            now := s.now + dt
                            clp :=
                              { s.clp with
                                receiver := .hunting
                                discards := { s.clp.discards with check := (s.clp.discards.check + 1) % 65536 } } }) ∧
              (latest + 5 < s.now + dt →
                exec (.byteReceived dt b framingError) s =
                  .next
                    { s with
                      now := s.now + dt
                      clp :=
                        { s.clp with
                          receiver := if b = 0x7E#8 ∧ framingError = false then .inFrame [] (s.now + dt) else .hunting
                          discards := { s.clp.discards with gap := (s.clp.discards.gap + 1) % 65536 } } })

/-- GAP_EXPIRY discards the frame in progress 5 ms after its latest byte; FRAME_SENT takes the oldest frame off the outbound
queue, puts its bytes on the line and makes a pending restart due when it is the Restart reply. The bytes are the marker,
the length, the kind, the tag and the result code of a reply or the report number of a report, the fields (none in a reply
without fields, the source and the set in a Change report, its first byte being the model's choice, log entry 38), and the
CRC of all after the marker (R176 to R178, R181, R182, R186, R190; before the instant, with nothing to send, or once the
restart is due, only time passes: log entries 2 and 21; the line: 27). -/
def Obligations.GapExpiryAndFrameSent : Prop :=
  (∃ fields : ReplyBody → List Byte,
    fields .none = [] ∧
      ∀ (kind tag code : Byte) (result : ResultCode) (body : ReplyBody) (content : List Byte),
        code =
            (match result with
            | .done => 0#8
            | .accepted => 1#8
            | .unknownKind => 2#8
            | .badField => 3#8
            | .busy => 4#8
            | .state => 5#8
            | .noLink => 6#8
            | .noCal => 7#8
            | .empty => 8#8
            | .unlisted => 9#8
            | .notFound => 10#8
            | .noMass => 11#8) →
          content = BitVec.ofNat 8 ((fields body).length + 2) :: kind :: tag :: code :: fields body →
            (OutFrame.reply kind tag result body).bytes = 0x7E#8 :: (content ++ bytesOf16 (crc16 content))) ∧
  (∃ fields : Report → List Byte,
    (∀ (gained : ChangeSource) (set : SourceSet),
      fields (.change gained set) = BitVec.ofNat 8 gained.bit :: bytesOf16 set) ∧
      ∀ (number : Nat) (kind : Byte) (r : Report) (content : List Byte),
        kind =
            (match r with
            | .weighResult _ => 0x81#8
            | .liftFiled _ => 0x82#8
            | .change _ _ => 0x83#8) →
          content = BitVec.ofNat 8 ((fields r).length + 1) :: kind :: BitVec.ofNat 8 number :: fields r →
            (OutFrame.report number r).bytes = 0x7E#8 :: (content ++ bytesOf16 (crc16 content))) ∧
  ∀ (s : State) (dt : Nat),
    s.power.main = true →
      (∀ taken latest,
        s.clp.receiver = .inFrame taken latest →
          exec (.gapExpiry dt) s =
            .next
              (if latest + 5 ≤ s.now + dt then
                { s with
                  now := s.now + dt
                  clp :=
                    { s.clp with
                      receiver := .hunting
                      discards := { s.clp.discards with gap := (s.clp.discards.gap + 1) % 65536 } } }
              else { s with now := s.now + dt })) ∧
        (s.clp.receiver = .hunting → exec (.gapExpiry dt) s = .next { s with now := s.now + dt }) ∧
        (s.clp.outbound = [] → exec (.frameSent dt) s = .next { s with now := s.now + dt }) ∧
        (∀ p, s.clp.restart = some p → p.replySent = true →
          exec (.frameSent dt) s = .next { s with now := s.now + dt }) ∧
        (∀ f rest, s.clp.outbound = f :: rest → s.clp.restart = none →
          exec (.frameSent dt) s =
            .next { s with now := s.now + dt, clp := { s.clp with outbound := rest, line := f.bytes } }) ∧
        ∀ f rest k sent, s.clp.outbound = f :: rest → s.clp.restart = some { kind := k, replySent := false } →
          (sent = true ↔ ∃ tag body, f = .reply 0x61#8 tag .done body) →
          exec (.frameSent dt) s =
            .next
              { s with
                now := s.now + dt
                clp :=
                  { s.clp with
                    outbound := rest
                    line := f.bytes
                    restart := some { kind := k, replySent := sent } } }

/-- A frame whose kind names no request is answered UnknownKind with its tag and no fields; a payload that does not decode is
answered BadField with no fields: the requests without fields with any field byte present, and the requests with fields by
their own readers. Nothing else changes. A request waits with 8 frames in the outbound queue or a restart pending, and so it
does behind an oldest frame of another kind: its command then lets only time pass, in every state of the rest, supplied or
not, as it does with an empty inbound queue; that a command can come when nothing can be taken, and what it then does, is the
model's choice (log entry 3) (R180, R181, R190). -/
def Obligations.UnknownOrUndecodedIsRefused : Prop :=
  let rows : List (Byte × (Nat → Instr)) :=
    [(0x01#8, .status), (0x02#8, .readChanges), (0x03#8, .clearChanges), (0x04#8, .changeConfig), (0x10#8, .drive),
      (0x11#8, .sectionConfig), (0x12#8, .profileWrite), (0x14#8, .release), (0x15#8, .faultClear), (0x20#8, .arm),
      (0x21#8, .disarm), (0x22#8, .captureConfig), (0x30#8, .assortment), (0x31#8, .readLifts), (0x32#8, .readTotals),
      (0x33#8, .undoLast), (0x34#8, .correct), (0x35#8, .reassign), (0x36#8, .manualLift), (0x37#8, .tripClose),
      (0x38#8, .payloadLimit), (0x40#8, .zoneWrite), (0x41#8, .zoneEnable), (0x42#8, .zoneRead),
      (0x48#8, .limiterConfig), (0x49#8, .ratedWrite), (0x50#8, .linkStatus), (0x51#8, .linkReset), (0x52#8, .calibrate),
      (0x53#8, .tare), (0x58#8, .channelCalibration), (0x59#8, .geometryConfig), (0x60#8, .storeSettings),
      (0x61#8, .restartRequest)]
  (∀ (s : State) (dt : Nat),
    (∀ x ∈ rows,
      ((∀ f ∈ s.clp.inbound.head?, f.kind ≠ x.1) ∨ 8 ≤ s.clp.outbound.length ∨ s.clp.restart ≠ none) →
        exec (x.2 dt) s = .next { s with now := s.now + dt }) ∧
      (((∀ f ∈ s.clp.inbound.head?, f.kind ∈ rows.map Prod.fst) ∨ 8 ≤ s.clp.outbound.length ∨ s.clp.restart ≠ none) →
        exec (.unknownKind dt) s = .next { s with now := s.now + dt })) ∧
  (∀ (s : State) (dt : Nat) (kind tag : Byte) (fields : List Byte) (rest : List InFrame),
    s.asked kind tag fields rest → kind ∉ rows.map Prod.fst →
      exec (.unknownKind dt) s = .next (s.replied dt rest kind tag .unknownKind .none)) ∧
    ∀ (s : State) (dt : Nat) (tag : Byte) (fields : List Byte) (rest : List InFrame),
      (fields ≠ [] →
        ∀ x ∈
          [((0x02#8 : Byte), Instr.readChanges dt), (0x14#8, .release dt), (0x20#8, .arm dt), (0x21#8, .disarm dt),
            (0x33#8, .undoLast dt), (0x37#8, .tripClose dt), (0x50#8, .linkStatus dt), (0x51#8, .linkReset dt),
            (0x53#8, .tare dt), (0x60#8, .storeSettings dt)],
          s.asked x.1 tag fields rest → exec x.2 s = .next (s.replied dt rest x.1 tag .badField .none)) ∧
        ∀ x ∈
          [((0x01#8 : Byte), Instr.status dt, decide (decodeAll readU8 fields = none)),
            (0x03#8, .clearChanges dt, decide (decodeAll readSources fields = none)),
            (0x04#8, .changeConfig dt, decide (decodeAll readChangeConfig fields = none)),
            (0x10#8, .drive dt, decide (decodeAll readDrive fields = none)),
            (0x11#8, .sectionConfig dt, decide (decodeAll readSectionConfig fields = none)),
            (0x12#8, .profileWrite dt, decide (decodeAll readProfile fields = none)),
            (0x15#8, .faultClear dt, decide (decodeAll readU8 fields = none)),
            (0x22#8, .captureConfig dt, decide (decodeAll readCapture fields = none)),
            (0x30#8, .assortment dt, decide (decodeAll readOptU8 fields = none)),
            (0x31#8, .readLifts dt, decide (decodeAll readReadLifts fields = none)),
            (0x32#8, .readTotals dt, decide (decodeAll readReadTotals fields = none)),
            (0x34#8, .correct dt, decide (decodeAll readCorrect fields = none)),
            (0x35#8, .reassign dt, decide (decodeAll readReassign fields = none)),
            (0x36#8, .manualLift dt, decide (decodeAll readManual fields = none)),
            (0x38#8, .payloadLimit dt, decide (decodeAll readOptU16 fields = none)),
            (0x40#8, .zoneWrite dt, decide (decodeAll readZoneWrite fields = none)),
            (0x41#8, .zoneEnable dt, decide (decodeAll readZoneEnable fields = none)),
            (0x42#8, .zoneRead dt, decide (decodeAll readU8 fields = none)),
            (0x48#8, .limiterConfig dt, decide (decodeAll readLimiter fields = none)),
            (0x49#8, .ratedWrite dt, decide (decodeAll readRated fields = none)),
            (0x52#8, .calibrate dt, decide (decodeAll readCalibrate fields = none)),
            (0x58#8, .channelCalibration dt, decide (decodeAll readChannel fields = none)),
            (0x59#8, .geometryConfig dt, decide (decodeAll readGeometry fields = none)),
            (0x61#8, .restartRequest dt, decide (decodeAll readRestart fields = none))],
          x.2.2 = true → s.asked x.1 tag fields rest →
            exec x.2.1 s = .next (s.replied dt rest x.1 tag .badField .none)

/-- STATUS answers each of its five pages as it stands and changes nothing; any other page number is BadField. The supply
fields of page 0 and the sections of pages 3 and 4 carry the coil record whole, the settle and idle times left on page 0 as
it shows them being the model's reading of R172 (log entries 26 and 40) (R172, R185). -/
def Obligations.StatusAnswersItsPages : Prop :=
  ∀ (s : State) (dt : Nat) (tag page : Byte) (rest : List InFrame),
    s.asked 0x01#8 tag [page] rest →
      (5 ≤ page.toNat → exec (.status dt) s = .next (s.replied dt rest 0x01#8 tag .badField .none)) ∧
        (page = 0#8 →
          ∃ g : GeneralPage,
            exec (.status dt) s = .next (s.replied dt rest 0x01#8 tag .done (.status (.general g))) ∧
              g.lastRestart = s.ssr.lastRestart ∧ g.supply = s.cds.supply ∧ g.closed = s.cds.closed ∧
              g.lockCause = s.cds.lockCause ∧ g.settleLeft = s.cds.settleLeft ∧ g.idleLeft = s.cds.idleLeft ∧
              g.limiter = s.mlm.state ∧ g.u = s.mlm.figures.map MomentFigures.u ∧
              g.tipValid = s.ssu.record.tipValid ∧ g.bunk = s.evm.bunk ∧ g.slow = s.evm.slow ∧ g.slewA = s.evm.slewA ∧
              g.slewB = s.evm.slewB ∧ g.intrusion = s.evm.intrusion ∧ g.engine = s.wce.state ∧ g.link = s.wlc.state ∧
              g.cause = s.wlc.cause ∧ g.valid = s.calValid ∧ g.tare = s.wlc.tare.state ∧ g.tripNumber = s.lt.number ∧
              g.counter = s.lt.counter ∧ g.listLength = s.lt.lifts.length ∧ g.estimate = s.lt.estimate ∧
              g.payload = s.payload ∧ g.store = s.ssr.store ∧ g.changeSet = s.clp.changeSet ∧
              g.enables = s.settings.enables ∧ g.ackMode = s.settings.ackMode ∧ g.inboundCount = rest.length ∧
              g.outboundCount = s.clp.outbound.length + 1 ∧ g.discards = s.clp.discards ∧
              g.reportNumber = s.clp.reportNumber) ∧
        (page = 1#8 →
          exec (.status dt) s = .next (s.replied dt rest 0x01#8 tag .done (.status (.scan s.ssu.record)))) ∧
        (page = 2#8 →
          exec (.status dt) s =
            .next
              (s.replied dt rest 0x01#8 tag .done
                (.status (.limiter s.mlm s.evm.bunk s.evm.slow s.evm.slewA s.evm.slewB s.evm.intrusion)))) ∧
        ∀ first : Nat,
          ((page = 3#8 ∧ first = 0) ∨ (page = 4#8 ∧ first = 3)) →
            ∃ v : Vector SectionPage 3,
              exec (.status dt) s = .next (s.replied dt rest 0x01#8 tag .done (.status (.sections v))) ∧
                ∀ (k : Fin 3) (i : Fin 6),
                  i.val = first + k.val →
                    v[k].coil = s.cds.sections[i] ∧
                      v[k].record = { s.dsh[i].record with held := s.dsh[i].held, latch := s.dsh[i].latch }

/-- READ_CHANGES answers the set, the enables and the mode; in CLEAR_ON_READ every member returned leaves and the empty set
is carried too, in EXPLICIT the set is unchanged. CLEAR_CHANGES removes the members named, in either mode, and answers the
set that is left; that the first byte of a set names sources 8 to 15 is the model's choice (log entry 38). CHANGE_CONFIG
replaces the enables and the mode that it carries; a source whose enable goes from on to off leaves the set, no source
joins it; the reply carries the three as they then stand (R187 to R189). -/
def Obligations.ChangeRequestsKeepSet : Prop :=
  (∀ (s : State) (dt : Nat) (tag : Byte) (rest : List InFrame),
    (s.asked 0x02#8 tag [] rest →
      (s.settings.ackMode = .clearOnRead →
        exec (.readChanges dt) s =
          .next
            { s with
              now := s.now + dt
              clp :=
                { s.clp.answered rest 0x02#8 tag .done
                    (.changes s.clp.changeSet s.settings.enables .clearOnRead (some 0#16)) with
                  changeSet := 0#16 } }) ∧
        (s.settings.ackMode = .explicit →
          exec (.readChanges dt) s =
            .next (s.replied dt rest 0x02#8 tag .done (.changes s.clp.changeSet s.settings.enables .explicit none)))) ∧
      ∀ hi lo : Byte,
        s.asked 0x03#8 tag [hi, lo] rest →
          ∃ left : SourceSet,
            (∀ k : Nat, k < 16 →
              left.getLsbD k =
                (s.clp.changeSet.getLsbD k && !(if k < 8 then lo.getLsbD k else hi.getLsbD (k - 8)))) ∧
              exec (.clearChanges dt) s =
                .next
                  { s with
                    now := s.now + dt
                    clp := { s.clp.answered rest 0x03#8 tag .done (.changeSet left) with changeSet := left } }) ∧
    ∀ (s : State) (dt : Nat) (tag : Byte) (fields : List Byte) (rest : List InFrame) (r : ChangeConfigRequest),
      s.asked 0x04#8 tag fields rest → decodeAll readChangeConfig fields = some r →
        ∃ left : SourceSet,
          (∀ k : Nat, k < 16 →
            left.getLsbD k =
              (s.clp.changeSet.getLsbD k &&
                !(s.settings.enables.getLsbD k && !(r.enables.getD s.settings.enables).getLsbD k))) ∧
            exec (.changeConfig dt) s =
              .next
                { s with
                  now := s.now + dt
                  settings :=
                    { s.settings with
                      enables := r.enables.getD s.settings.enables
                      ackMode := r.mode.getD s.settings.ackMode }
                  clp :=
                    { s.clp.answered rest 0x04#8 tag .done
                        (.changeConfig (r.enables.getD s.settings.enables) (r.mode.getD s.settings.ackMode) left) with
                      changeSet := left } }

/-- A latch of an enabled source that is not a member makes it one and raises its Change report with the set as it then
stands; otherwise nothing changes. A report raised, of any of the three kinds, takes the report number, which then advances
from 255 to 0, and is appended, or dropped when 8 frames wait (R183, R186, R187). -/
def Obligations.LatchRaisesOneReport : Prop :=
  (∀ (c : Clp) (r : Report),
    c.raise r =
      { c with
        reportNumber := (c.reportNumber + 1) % 256
        outbound := if c.outbound.length < 8 then c.outbound ++ [.report c.reportNumber r] else c.outbound }) ∧
  ∀ (s : State) (src : ChangeSource),
    (s.settings.enables.getLsbD src.bit = true → s.clp.changeSet.getLsbD src.bit = false →
      ∃ set : SourceSet,
        (∀ k : Nat, k < 16 → set.getLsbD k = (s.clp.changeSet.getLsbD k || k == src.bit)) ∧
          latch src s =
            { s with
              clp :=
                { s.clp with
                  changeSet := set
                  reportNumber := (s.clp.reportNumber + 1) % 256
                  outbound :=
                    if s.clp.outbound.length < 8 then
                      s.clp.outbound ++ [.report s.clp.reportNumber (.change src set)]
                    else s.clp.outbound } }) ∧
      (s.settings.enables.getLsbD src.bit = false ∨ s.clp.changeSet.getLsbD src.bit = true → latch src s = s)

/-! ### Demands and the engine's demand events -/

/-- DRIVE with an enable or halt value above 1 is BadField with the Drive reply's fields and changes nothing; otherwise
every section takes its clamped demand, or 0 with enable 0, its age restarts, its expired flag clears, and its latch is
cleared by enable 1 with a demand below 50‰; then the engine makes the closure test, the release test and the test of the
lift conditions; then the supply locks or wakes, which sets every latch. The reply carries the outputs and states of the six
sections, the supply, the limiter state and u, the bunk membership and the engine state; it stands before the reports of the
tests, and SupplyLocked is latched last. Settings, sensors, zones, limiter and store stand (R45, R135 to R138, R183, R184;
the tests' order: log entry 9; the enable-0 flag: log entry 11). -/
def Obligations.DriveHoldsDemands : Prop :=
  ∀ (s : State) (dt : Nat) (tag : Byte) (fields : List Byte) (rest : List InFrame) (r : DriveRequest),
    s.asked 0x10#8 tag fields rest → decodeAll readDrive fields = some r →
      ((1 < r.enable ∨ 1 < r.halt) →
        exec (.drive dt) s =
          .next
            (s.replied dt rest 0x10#8 tag .badField
              (.drive
                { sections := Vector.ofFn fun i => (s.cds.sections[i].output, s.cds.sections[i].state)
                  supply := s.cds.supply
                  limiter := s.mlm.state
                  u := s.mlm.figures.map MomentFigures.u
                  bunk := s.evm.bunk
                  engine := s.wce.state }))) ∧
        (r.enable ≤ 1 → r.halt ≤ 1 →
          ∃ (d : Vector DshSection 6) (u w t : State),
            (∀ i : Fin 6, ∃ x : Int,
              x = max (-1000) (min 1000 (r.demands.getD i 0)) ∧
                d[i] =
                  { s.dsh[i] with
                    held := if r.enable = 1 then x else 0
                    expiryDue := some (s.now + dt + s.settings.common.expiryTime)
                    expired := false
                    disabled := r.enable == 0
                    latch := if r.enable = 1 ∧ |x| < 50 then false else s.dsh[i].latch }) ∧
              u =
                liftConditions
                  (releaseTest
                    (closureTest
                      { s with
                        now := s.now + dt, dsh := d, clp := s.clp.answered rest 0x10#8 tag .done .none })) ∧
              w = (if r.halt = 1 ∧ s.cds.supply ≠ .locked then latch .supplyLocked u else u) ∧
              exec (.drive dt) s = .next t ∧
              t =
                { w with
                  dsh := t.dsh
                  cds := t.cds
                  clp :=
                    { w.clp with
                      outbound :=
                        w.clp.outbound.set s.clp.outbound.length
                          (.reply 0x10#8 tag .done
                            (.drive
                              { sections := Vector.ofFn fun i => (t.cds.sections[i].output, t.cds.sections[i].state)
                                supply := t.cds.supply
                                limiter := s.mlm.state
                                u := s.mlm.figures.map MomentFigures.u
                                bunk := s.evm.bunk
                                engine := t.wce.state })) } } ∧
              (t.cds.supply = s.cds.supply → t.dsh = d) ∧
              (t.cds.supply ≠ s.cds.supply → ∀ i : Fin 6,
                t.dsh[i] =
                  { d[i] with
                    latch := true, output := if t.cds.supply = .locked then 0 else s.dsh[i].output }) ∧
              t.now = s.now + dt ∧ t.clp.inbound = rest ∧ t.settings = s.settings ∧ t.ssu = s.ssu ∧ t.evm = s.evm ∧
              t.mlm = s.mlm ∧ t.ssr = s.ssr ∧ t.power = s.power ∧ t.pending = s.pending)

/-- What a taken DRIVE does to the supply: halt 1 locks it with cause Halt from any other state; halt 0 with a demand held
wakes it from ASLEEP; otherwise it stands. The lock opens the switch, stops the timers and every coil, sets the dead time of
the driven sections and blocks every section not in FAULT; the wake closes the switch, starts the settle timer and blocks
them; each publishes the times left in the coil record (R165, R167, R168, R171, R172; log entry 26). -/
def Obligations.DriveLocksOrWakesSupply : Prop :=
  ∀ (s : State) (dt : Nat) (tag : Byte) (fields : List Byte) (rest : List InFrame) (r : DriveRequest),
    s.asked 0x10#8 tag fields rest → decodeAll readDrive fields = some r → r.enable ≤ 1 → r.halt ≤ 1 →
      ∃ t : State,
        exec (.drive dt) s = .next t ∧
          (r.halt = 1 → s.cds.supply ≠ .locked →
            t.cds.supply = .locked ∧ t.cds.closed = false ∧ t.cds.lockCause = some .halt ∧ t.cds.settleDue = none ∧
              t.cds.idleDue = none ∧ t.cds.settleLeft = none ∧ t.cds.idleLeft = none ∧
              (s.settings.enables.getLsbD 11 = true → t.clp.changeSet.getLsbD 11 = true) ∧
              ∀ i : Fin 6,
                t.dsh[i].output = 0 ∧
                  t.cds.sections[i] =
                    { s.cds.sections[i] with
                      state := if s.cds.sections[i].state = .fault then .fault else .blocked
                      output := 0
                      active := .none
                      setpoint := 0
                      dead :=
                        if s.cds.sections[i].state = .driveA ∨ s.cds.sections[i].state = .driveB then
                          s.settings.sections[i].deadTime
                        else s.cds.sections[i].dead }) ∧
          (r.halt = 1 → s.cds.supply = .locked → t.cds = s.cds) ∧
          (r.halt = 0 → s.cds.supply = .asleep → (∃ i : Fin 6, t.dsh[i].held ≠ 0) →
            t.cds.supply = .waking ∧ t.cds.closed = true ∧
              t.cds.settleDue = some (s.now + dt + s.settings.common.settleTime) ∧ t.cds.lockCause = s.cds.lockCause ∧
              t.cds.idleDue = s.cds.idleDue ∧ t.cds.settleLeft = some s.settings.common.settleTime ∧
              t.cds.idleLeft = none ∧
              ∀ i : Fin 6,
                t.dsh[i].output = s.dsh[i].output ∧
                  t.cds.sections[i] =
                    { s.cds.sections[i] with
                      state := if s.cds.sections[i].state = .fault then .fault else .blocked }) ∧
          (r.halt = 0 → (s.cds.supply ≠ .asleep ∨ ∀ i : Fin 6, t.dsh[i].held = 0) → t.cds = s.cds)

/-- DEMAND_EXPIRY at its instant: the section's demand becomes 0, its expired flag and latch are set, and then the engine
makes the closure test, the release test and the test of the lift conditions; every other section, the coils, settings,
sensors, zones, limiter and store stand. Before the instant, or with no demand age, only time passes (R45, R136, R137; log
entries 2 and 9). -/
def Obligations.DemandExpiryDropsDemand : Prop :=
  ∀ (s : State) (dt : Nat) (v : ValveSection),
    s.power.main = true →
      (∀ due : Nat, s.dsh[v.index].expiryDue = some due → due ≤ s.now + dt →
        ∃ (d : Vector DshSection 6) (t : State),
          d[v.index] = { s.dsh[v.index] with held := 0, expiryDue := none, expired := true, latch := true } ∧
            (∀ i : Fin 6, i ≠ v.index → d[i] = s.dsh[i]) ∧
            t = liftConditions (releaseTest (closureTest { s with now := s.now + dt, dsh := d })) ∧
            exec (.demandExpiry dt v) s = .next t ∧ t.now = s.now + dt ∧ t.dsh = d ∧
            t.clp.inbound = s.clp.inbound ∧ t.cds = s.cds ∧ t.settings = s.settings ∧ t.ssu = s.ssu ∧
            t.evm = s.evm ∧ t.mlm = s.mlm ∧ t.ssr = s.ssr ∧ t.power = s.power ∧ t.pending = s.pending) ∧
        ((∀ due : Nat, s.dsh[v.index].expiryDue = some due → s.now + dt < due) →
          exec (.demandExpiry dt v) s = .next { s with now := s.now + dt })

/-- The closure test of a demand event: GRAPPLE A at the grip threshold begins or continues a run; below it a run ends, with
a closure event when it has lasted the hold time; in IDLE a closure event opens a grip, ARMED when auto-arm or pre-arm asks
for it and the calibration record is valid, and ends a running tare as Disturbed; in any other state it is ignored (R42,
R45 to R47, R49, R50; the validity read: log entry 10). -/
def Obligations.ClosureTestOpensGrip : Prop :=
  ∀ s : State,
    ((s.settings.capture.gripThreshold : Int) ≤ s.dsh[(5 : Fin 6)].held →
      closureTest s =
        { s with wce := { s.wce with closureRun := some (s.wce.closureRun.getD s.now) } }) ∧
      (s.dsh[(5 : Fin 6)].held < s.settings.capture.gripThreshold →
        (s.wce.closureRun = none → closureTest s = s) ∧
          (∀ began : Nat, s.wce.closureRun = some began →
            ((s.now - began < s.settings.capture.holdTime ∨ s.wce.state ≠ .idle) →
              closureTest s = { s with wce := { s.wce with closureRun := none } }) ∧
              (s.settings.capture.holdTime ≤ s.now - began → s.wce.state = .idle →
                ∃ u : State,
                  closureTest s = u ∧
                    u.wce =
                      { s.wce with
                        closureRun := none
                        grip := if s.wce.grip < 65535 then s.wce.grip + 1 else 1
                        origin := some s.evm.bunk
                        validityRead := s.calValid
                        state :=
                          if (s.settings.capture.autoArm ∨ s.wce.preArm) ∧ s.calValid then .armed else .gripped
                        preArm := false } ∧
                    (s.wlc.tare.state = .running →
                      u =
                        latch .tareEnded
                          { s with
                            wce := u.wce
                            wlc := { s.wlc with tare := { s.wlc.tare with state := .failed .disturbed } } }) ∧
                    (s.wlc.tare.state ≠ .running → u = { s with wce := u.wce }))))

/-- The release test: GRAPPLE B at the grip threshold sets the open edge, below it clears it; a rise of the edge with a grip
open in GRIPPED, ARMED or HELD closes the grip: a LOAD or UNLOAD by origin and drop is filed with the pending lift's net mass
and flags, any other disposition files nothing, the Lift Filed report is raised last, and the engine is IDLE with neither
origin nor pending lift. In COLLECTING and SUSPENDED the capture first ends as Released. A filing that would pass a total's
greatest value is turned away; any other is numbered, listed or counted unlisted with ListFull latched, joins its totals and
the estimate, and tests the payload levels (R48, R67 to R70, R80 to R86). -/
def Obligations.ReleaseTestClosesGrip : Prop :=
  (∀ (s : State) (d : LiftDirection) (a : Fin 16) (mass : Option Nat) (flags : LiftFlags) (listed : Bool)
      (m w number : Nat) (old new : DirTotals),
    s.lt.Sound → (listed = true ↔ s.lt.counter < 65535 ∧ s.lt.lifts.length < 96) → m = mass.getD 0 →
      w = (if mass = none then 0 else 1) → number = (if s.lt.counter < 65535 then s.lt.counter + 1 else 65535) →
        old = s.lt.table[a].dir d →
          new =
              { count := old.count + 1
                weighed := old.weighed + w
                mass := old.mass + m
                unlisted := if listed then old.unlisted else old.unlisted + 1
                unlistedMass := if listed then old.unlistedMass else old.unlistedMass + m } →
            ((∃ x ∈ [new.count, new.weighed, new.mass, new.unlisted, new.unlistedMass], 4294967295 < x) →
              fileLift d a mass flags s = (s, none)) ∧
              ((∀ x ∈ [new.count, new.weighed, new.mass, new.unlisted, new.unlistedMass], x ≤ 4294967295) →
                ∃ (table : Vector TallyEntry 16) (u : State),
                  table[a].dir d = new ∧
                    (∀ (b : Fin 16) (e : LiftDirection), (b ≠ a ∨ e ≠ d) →
                      table[b].dir e = s.lt.table[b].dir e) ∧
                    u =
                      { s with
                        lt :=
                          { s.lt with
                            counter := number
                            lastUnlisted := !listed
                            lifts :=
                              if listed then
                                s.lt.lifts ++
                                  [{ number := number, direction := d, assortment := a, mass := mass
                                     correction := none, flags := flags }]
                              else s.lt.lifts
                            table := table
                            estimate := if d = .load then s.lt.estimate + m else s.lt.estimate - m } } ∧
                    fileLift d a mass flags s =
                      (payloadTest s.payload (if listed then u else latch .listFull u),
                        some
                          { number := number, listed := listed, direction := d, assortment := a, mass := mass
                            flags := flags }))) ∧
  ∀ s : State,
    (-(s.settings.capture.gripThreshold : Int) < s.dsh[(5 : Fin 6)].held →
      releaseTest s = { s with wce := { s.wce with openEdge := false } }) ∧
      (s.dsh[(5 : Fin 6)].held ≤ -(s.settings.capture.gripThreshold : Int) →
        ((s.wce.openEdge = true ∨ s.wce.state = .idle) →
          releaseTest s = { s with wce := { s.wce with openEdge := true } }) ∧
          (s.wce.openEdge = false → ∀ origin : BunkMembership, s.wce.origin = some origin →
            ((s.wce.state = .gripped ∨ s.wce.state = .armed ∨ s.wce.state = .held) →
              ∃ (u f : State) (filed : Option FilingAnswer) (disposition : Disposition),
                releaseTest s = u ∧
                  u.wce = { s.wce with openEdge := true, held := none, origin := none, state := .idle } ∧
                  ((origin = .inside ∧ s.evm.bunk = .inside ∧ disposition = .reposition ∧ f = s ∧ filed = none) ∨
                    (origin ≠ .inside ∧ s.evm.bunk ≠ .inside ∧ disposition = .returned ∧ f = s ∧ filed = none) ∨
                    ∃ d : LiftDirection,
                      ((origin ≠ .inside ∧ s.evm.bunk = .inside ∧ disposition = .load ∧ d = .load) ∨
                        (origin = .inside ∧ s.evm.bunk ≠ .inside ∧ disposition = .unload ∧ d = .unload)) ∧
                        (f, filed) =
                          fileLift d s.lt.assortment
                            (s.wce.held.bind fun p => p.outcome.masses.map WeighedMass.net)
                            { extended := s.wce.held.any PendingLift.extended
                              belowTare := s.wce.held.any PendingLift.belowTare
                              manual := false
                              geometryUnknown := origin == .unknown || s.evm.bunk == .unknown }
                            s) ∧
                  u.lt = f.lt ∧
                  (∃ capture : CaptureSummary,
                    (capture = .none ↔ s.wce.held = none) ∧
                      (capture = .weighed ↔ ∃ p m, s.wce.held = some p ∧ p.outcome = .weighed m) ∧
                      (∀ why, capture = .unweighed why ↔ ∃ p, s.wce.held = some p ∧ p.outcome = .unweighed why) ∧
                      u.clp =
                        f.clp.raise
                          (.liftFiled
                            { grip := s.wce.grip, origin := origin, drop := s.evm.bunk, disposition := disposition,
                              capture := capture, filed := filed })) ∧
                  u = { s with wce := u.wce, lt := u.lt, clp := u.clp }) ∧
              ((s.wce.state = .collecting ∨ s.wce.state = .suspended) →
                releaseTest s =
                  releaseTest (endCapture (.unweighed .released) false s))))

/-- The lift conditions of a demand event: in ARMED a trigger with the link RUNNING and a valid record starts a capture;
without them the engine stays ARMED; in COLLECTING both demands below the threshold suspend it; in SUSPENDED the trigger
resumes it; in every other state nothing changes (R53, R54; the validity read: log
entry 10). -/
def Obligations.LiftConditionsRunCapture : Prop :=
  ∀ (s : State) (trigger : Prop),
    (trigger ↔
      (s.settings.capture.liftThreshold : Int) ≤ s.dsh[(1 : Fin 6)].held ∨
        (s.settings.capture.liftThreshold : Int) ≤ s.dsh[(2 : Fin 6)].held) →
      (s.wce.state = .armed → trigger → s.wlc.state = .running → s.calValid = true →
        liftConditions s =
          { s with
            wce :=
              { s.wce with
                validityRead := true
                state := .collecting
                remaining := s.settings.capture.budget
                extLeft := s.settings.capture.maxExtensions
                rejects := 0
                accepted := 0
                extUsed := 0
                extended := false
                window := [] } }) ∧
        (s.wce.state = .armed → trigger → (s.wlc.state ≠ .running ∨ s.calValid = false) →
          liftConditions s = { s with wce := { s.wce with validityRead := s.calValid } }) ∧
        (s.wce.state = .collecting → ¬trigger →
          liftConditions s =
            { s with
              wce :=
                { s.wce with state := .suspended, suspendDue := some (s.now + s.settings.capture.suspendTime) } }) ∧
        (s.wce.state = .suspended → trigger →
          liftConditions s = { s with wce := { s.wce with state := .collecting, suspendDue := none } }) ∧
        (((s.wce.state = .armed ∧ ¬trigger) ∨ (s.wce.state = .collecting ∧ trigger) ∨
            (s.wce.state = .suspended ∧ ¬trigger) ∨ s.wce.state = .idle ∨ s.wce.state = .gripped ∨ s.wce.state = .held) →
          liftConditions s = s)

/-- SUSPEND_TIMER_EXPIRY at its instant ends the capture unweighed as Stalled: the pending lift stands with the window's
count and spread, the window is empty, the engine is HELD and the Weigh Result is raised; otherwise only time passes (R55,
R65, R66; log entry 2). -/
def Obligations.SuspendExpiryStallsCapture : Prop :=
  ∀ (s : State) (dt : Nat),
    s.power.main = true →
      (∀ due : Nat, s.wce.state = .suspended → s.wce.suspendDue = some due → due ≤ s.now + dt →
        ∃ p : PendingLift,
          p.grip = s.wce.grip ∧ p.outcome = .unweighed .stalled ∧ p.n = s.wce.window.length ∧
            (p.spread = none ↔ s.wce.window = []) ∧
            (∀ w : Nat, p.spread = some w →
              (∃ x ∈ s.wce.window, ∃ y ∈ s.wce.window, (w : Int) = x.force - y.force) ∧
                ∀ x ∈ s.wce.window, ∀ y ∈ s.wce.window, x.force - y.force ≤ w) ∧
            p.extended = s.wce.extended ∧ p.belowTare = false ∧ p.accepted = s.wce.accepted ∧
            p.rejects = s.wce.rejects ∧ p.extUsed = s.wce.extUsed ∧
            exec (.suspendTimerExpiry dt) s =
              .next
                { s with
                  now := s.now + dt
                  wce := { s.wce with window := [], suspendDue := none, state := .held, held := some p }
                  clp := s.clp.raise (.weighResult p) }) ∧
        ((s.wce.state ≠ .suspended ∨ ∀ due : Nat, s.wce.suspendDue = some due → s.now + dt < due) →
          exec (.suspendTimerExpiry dt) s = .next { s with now := s.now + dt })

/-! ### Drive period, coils and supply -/

/-- DRIVE_PERIOD in regular mode: T0 is 0 under the latch and the held demand otherwise; T is T0 through the slow factor, the
limiter factor of the direction's class, for SLEW the slew factor and for TELE out the intrusion cut; the output moves by
the first row of R143 that applies, SOFT or HARD by R144, and is 0 under a hold, or when this period puts the section in
FAULT or locks the supply (R139 to R144). -/
def Obligations.DrivePeriodRegularMode : Prop :=
  ∀ (s : State) (dt : Nat) (currents : Vector Nat 6) (i : Fin 6),
    s.power.main = true → s.settings.sections[i].mode = .regular →
      ∃ (t : State) (t1 t2 t3 : Int),
        exec (.drivePeriod dt currents) s = .next t ∧
          t.dsh[i].t0 = (if s.dsh[i].latch then 0 else s.dsh[i].held) ∧
          t1 = Int.tdiv (t.dsh[i].t0 * s.evm.slow) 1000 ∧
          t2 =
            Int.tdiv
              (t1 *
                (if (0 < t.dsh[i].t0 ∧ s.settings.sections[i].classA = .raising) ∨
                    (t.dsh[i].t0 < 0 ∧ s.settings.sections[i].classB = .raising) then
                  (s.mlm.factor : Int)
                else 1000))
              1000 ∧
          t3 =
            (if i = 0 then
              Int.tdiv (t2 * (if 0 < t.dsh[i].t0 then (s.evm.slewA : Int) else s.evm.slewB)) 1000
            else t2) ∧
          t.dsh[i].target = (if i = 3 ∧ 0 < t.dsh[i].t0 ∧ s.evm.intrusion = true then 0 else t3) ∧
          t.dsh[i].requested = (if 0 < t.dsh[i].t0 then .a else if t.dsh[i].t0 < 0 then .b else .none) ∧
          t.dsh[i].running = false ∧ t.dsh[i].index = s.dsh[i].index ∧ t.dsh[i].divider = s.dsh[i].divider ∧
          ((s.cds.supply ≠ .active ∨ t.cds.supply ≠ .active ∨ s.cds.sections[i].state = .fault ∨
              t.cds.sections[i].state = .fault ∨ s.cds.sections[i].state = .deadtime) →
            t.dsh[i].output = 0) ∧
          ((s.cds.supply = .active ∧ t.cds.supply = .active ∧ s.cds.sections[i].state ≠ .fault ∧
              t.cds.sections[i].state ≠ .fault ∧ s.cds.sections[i].state ≠ .deadtime) →
            ∀ (o T T0 : Int) (up down : Nat),
              o = s.dsh[i].output → T = t.dsh[i].target → T0 = t.dsh[i].t0 →
                up = s.settings.sections[i].upStep → down = s.settings.sections[i].downStep →
                  t.dsh[i].output =
                    if o = 0 ∧ T = 0 then 0
                    else if o = 0 then T.sign * (min up T.natAbs : Nat)
                    else if T.sign = o.sign ∧ o.natAbs ≤ T.natAbs then
                      o.sign * ((o.natAbs : Int) + min (up : Int) (T.natAbs - o.natAbs))
                    else if T.sign ≠ -o.sign ∧ T ≠ T0 ∧ s.settings.sections[i].stopMode = .hard then T
                    else if T.sign ≠ -o.sign then
                      o.sign * ((o.natAbs : Int) - min (down : Int) (o.natAbs - T.natAbs))
                    else o.sign * ((o.natAbs : Int) - min (down : Int) o.natAbs))

/-- DRIVE_PERIOD in profile mode: the section runs while its demand is 100‰ or more, its latch clear, its output 0 or of the
demand's sign, and no hold stands; running it takes the entry at its index, from the start index when it was not running,
scaled like a target, at once, requests the coil of the target's sign, and steps the divider and the index by the end mode;
not running it keeps both, with T0 and T 0 and no coil requested, and falls by the down step, or by the stop mode when a
demand below 100‰ or of the other sign stops it. Under a hold, or when this period puts it in FAULT or locks the supply, its
output is 0 (R140, R141, R146 to R149; the enable-0 flag: log entry 11). -/
def Obligations.DrivePeriodProfileMode : Prop :=
  ∀ (s : State) (dt : Nat) (currents : Vector Nat 6) (i : Fin 6) (hold runs : Prop),
    s.power.main = true → s.settings.sections[i].mode = .profile →
      (hold ↔ s.cds.supply ≠ .active ∨ s.cds.sections[i].state = .fault ∨ s.cds.sections[i].state = .deadtime) →
        (runs ↔
          100 ≤ |s.dsh[i].held| ∧ s.dsh[i].latch = false ∧
            (s.dsh[i].output = 0 ∨ s.dsh[i].output.sign = s.dsh[i].held.sign) ∧ ¬hold) →
          ∃ t : State,
            exec (.drivePeriod dt currents) s = .next t ∧
              ((hold ∨ t.cds.supply ≠ .active ∨ t.cds.sections[i].state = .fault) → t.dsh[i].output = 0) ∧
              (runs →
                ∃ (index divider : Nat) (table : Fin 3) (entry : Nat) (t1 t2 t3 : Int),
                  index = (if s.dsh[i].running then s.dsh[i].index else s.settings.sections[i].startIndex) ∧
                    divider = (if s.dsh[i].running then s.dsh[i].divider else 0) ∧
                    table = (if i = 0 ∨ i = 4 then 0 else if i = 1 ∨ i = 2 then 1 else 2) ∧
                    (∀ k : Fin 16, k.val = index → entry = s.settings.profiles[table][k]) ∧
                    (index ≤ 15 →
                      t.dsh[i].t0 = s.dsh[i].held.sign * entry ∧ t1 = Int.tdiv (t.dsh[i].t0 * s.evm.slow) 1000 ∧
                        t2 =
                          Int.tdiv
                            (t1 *
                              (if (0 < s.dsh[i].held ∧ s.settings.sections[i].classA = .raising) ∨
                                  (s.dsh[i].held < 0 ∧ s.settings.sections[i].classB = .raising) then
                                (s.mlm.factor : Int)
                              else 1000))
                            1000 ∧
                        t3 =
                          (if i = 0 then
                            Int.tdiv (t2 * (if 0 < s.dsh[i].held then (s.evm.slewA : Int) else s.evm.slewB)) 1000
                          else t2) ∧
                        t.dsh[i].target =
                          (if i = 3 ∧ 0 < s.dsh[i].held ∧ s.evm.intrusion = true then 0 else t3) ∧
                        (t.cds.supply = .active → t.cds.sections[i].state ≠ .fault →
                          t.dsh[i].output = t.dsh[i].target)) ∧
                    t.dsh[i].requested =
                      (if 0 < t.dsh[i].t0 then .a else if t.dsh[i].t0 < 0 then .b else .none) ∧
                    t.dsh[i].running = true ∧
                    (divider + 1 < s.settings.sections[i].stepDivider →
                      t.dsh[i].divider = divider + 1 ∧ t.dsh[i].index = index) ∧
                    (s.settings.sections[i].stepDivider ≤ divider + 1 →
                      t.dsh[i].divider = 0 ∧
                        t.dsh[i].index =
                          if index < (if s.settings.sections[i].range = .low then 7 else 15) then index + 1
                          else if s.settings.sections[i].endMode = .autostop then index
                          else if s.settings.sections[i].range = .high then 8 else 0)) ∧
              (¬runs →
                t.dsh[i].running = false ∧ t.dsh[i].t0 = 0 ∧ t.dsh[i].target = 0 ∧ t.dsh[i].requested = .none ∧
                  t.dsh[i].index = s.dsh[i].index ∧ t.dsh[i].divider = s.dsh[i].divider ∧
                  (¬hold → t.cds.supply = .active → t.cds.sections[i].state ≠ .fault →
                    t.dsh[i].output =
                      if s.dsh[i].latch = false ∧ s.dsh[i].expired = false ∧ s.dsh[i].disabled = false ∧
                          s.settings.sections[i].stopMode = .hard then 0
                      else
                        s.dsh[i].output.sign *
                          ((s.dsh[i].output.natAbs : Int) -
                            min (s.settings.sections[i].downStep : Int) s.dsh[i].output.natAbs)))

/-- DRIVE_PERIOD at the coils: each section takes its output; its dead-time count is set when a driven section's output is
now 0 and else runs down; its state is that of the first row of R157; its setpoint is I_min plus the floored share of the
output on the active coil of a driven section, 0 elsewhere; the section record is published; the idle timer is cancelled
while an output stands and starts when the last one has fallen; the coil record is published with its times left. An entry
to FAULT latches CoilFault and one to LOCKED SupplyLocked; all else stands, the model's flag of the enable-0 Drive among it
(log entry 11) (R150, R156 to R159, R170, R172; log entries 8,
26, 29; a section with dead time left after a Fault clear is DEADTIME, the model's choice between R157 and R164: log entry
37). -/
def Obligations.DrivePeriodSetsCoils : Prop :=
  ∀ (s : State) (dt : Nat) (currents : Vector Nat 6),
    s.power.main = true → s.cds.Sound → s.CoilsSound →
      ∃ t : State,
        exec (.drivePeriod dt currents) s = .next t ∧ t.now = s.now + dt ∧
          (∀ i : Fin 6,
            t.cds.sections[i].output = t.dsh[i].output ∧
              t.cds.sections[i].dead =
                (if (s.cds.sections[i].state = .driveA ∨ s.cds.sections[i].state = .driveB) ∧ t.dsh[i].output = 0 then
                  s.settings.sections[i].deadTime
                else s.cds.sections[i].dead - 1) ∧
              (t.cds.sections[i].state ≠ .fault →
                t.cds.sections[i].state =
                  if t.cds.supply ≠ .active then (if t.dsh[i].latch then .blocked else .idle)
                  else if 0 < t.cds.sections[i].dead then .deadtime
                  else if 0 < t.dsh[i].output then .driveA
                  else if t.dsh[i].output < 0 then .driveB
                  else if t.dsh[i].latch then .blocked
                  else .idle) ∧
              t.cds.sections[i].active =
                (if t.cds.sections[i].state = .driveA then .a
                else if t.cds.sections[i].state = .driveB then .b else .none) ∧
              t.cds.sections[i].setpoint =
                (if t.cds.sections[i].state = .driveA ∨ t.cds.sections[i].state = .driveB then
                  s.settings.sections[i].iMin +
                    t.dsh[i].output.natAbs * (s.settings.sections[i].iMax - s.settings.sections[i].iMin) / 1000
                else 0) ∧
              t.dsh[i].held = s.dsh[i].held ∧ t.dsh[i].expiryDue = s.dsh[i].expiryDue ∧
              t.dsh[i].expired = s.dsh[i].expired ∧ t.dsh[i].disabled = s.dsh[i].disabled ∧
              t.dsh[i].record =
                { held := t.dsh[i].held
                  expired := t.dsh[i].expired
                  timeToExpiry := t.dsh[i].expiryDue.map (· - t.now)
                  latch := t.dsh[i].latch
                  mode := s.settings.sections[i].mode
                  t0 := t.dsh[i].t0
                  target := t.dsh[i].target
                  output := t.dsh[i].output
                  requested := t.dsh[i].requested
                  running := t.dsh[i].running
                  index := t.dsh[i].index
                  divider := t.dsh[i].divider }) ∧
          (t.cds.supply = .active →
            ((∃ i : Fin 6, t.dsh[i].output ≠ 0) → t.cds.idleDue = none) ∧
              ((∀ i : Fin 6, t.dsh[i].output = 0) → (∃ i : Fin 6, s.dsh[i].output ≠ 0) →
                t.cds.idleDue = some (t.now + s.settings.common.idleTime * 1000)) ∧
              ((∀ i : Fin 6, t.dsh[i].output = 0 ∧ s.dsh[i].output = 0) → t.cds.idleDue = s.cds.idleDue)) ∧
          t.cds.settleLeft = (if t.cds.supply = .waking then t.cds.settleDue.map (· - t.now) else none) ∧
          t.cds.idleLeft = (if t.cds.supply = .active then t.cds.idleDue.map (· - t.now) else none) ∧
          t = { s with now := t.now, dsh := t.dsh, cds := t.cds, clp := (s.periodLatches t).clp }

/-- DRIVE_PERIOD judges the period just ended: a driven section above 130% of its setpoint goes to FAULT as Short; one below
half of a setpoint of 200 mA or more counts an open, and at the third in a row goes to FAULT as Open; any other section
keeps or clears its count and takes no fault. A fault keeps coil, setpoint and measured current and latches CoilFault; any
short locks the supply with cause CoilShort unless it is locked, which latches SupplyLocked; without a short the supply
stands; no other source is latched (R160, R161, R163, R165; an open count past its limit: log entry 25). -/
def Obligations.DrivePeriodFindsCoilFaults : Prop :=
  ∀ (s : State) (dt : Nat) (currents : Vector Nat 6),
    s.power.main = true → s.cds.Sound → s.CoilsSound →
      ∃ (t : State) (short opened openNow : Fin 6 → Prop),
        exec (.drivePeriod dt currents) s = .next t ∧
          (∀ i : Fin 6,
            (short i ↔ 0 < s.cds.sections[i].setpoint ∧ s.cds.sections[i].setpoint * 13 < currents[i] * 10) ∧
              (opened i ↔ 200 ≤ s.cds.sections[i].setpoint ∧ currents[i] * 2 < s.cds.sections[i].setpoint) ∧
              (openNow i ↔ opened i ∧ 2 ≤ s.cds.sections[i].opens) ∧
              (short i →
                t.cds.sections[i].state = .fault ∧
                  t.cds.sections[i].fault =
                    some
                      { cause := .short
                        coil := s.cds.sections[i].active
                        setpoint := s.cds.sections[i].setpoint
                        measured := some currents[i] }) ∧
              (openNow i →
                t.cds.sections[i].state = .fault ∧
                  t.cds.sections[i].fault =
                    some
                      { cause := .openCoil
                        coil := s.cds.sections[i].active
                        setpoint := s.cds.sections[i].setpoint
                        measured := some currents[i] }) ∧
              ((short i ∨ openNow i) →
                t.cds.sections[i].opens = 0 ∧ t.cds.sections[i].output = 0 ∧ t.cds.sections[i].setpoint = 0) ∧
              (¬short i → ¬openNow i →
                (t.cds.sections[i].state = .fault ↔ s.cds.sections[i].state = .fault) ∧
                  t.cds.sections[i].fault = s.cds.sections[i].fault ∧
                  (opened i → t.cds.sections[i].opens = s.cds.sections[i].opens + 1) ∧
                  (¬opened i → t.cds.sections[i].opens = 0)) ∧
              t.cds.sections[i].measured = (if s.cds.sections[i].setpoint = 0 then 0 else currents[i])) ∧
          ((∃ i, short i) → s.cds.supply ≠ .locked →
            t.cds.supply = .locked ∧ t.cds.closed = false ∧ t.cds.lockCause = some .coilShort ∧
              t.cds.settleDue = none ∧ t.cds.idleDue = none ∧
              ∀ i : Fin 6, t.dsh[i].latch = true ∧ t.dsh[i].output = 0) ∧
          t.clp = (s.periodLatches t).clp ∧
          ((¬∃ i, short i) →
            t.cds.supply = s.cds.supply ∧ t.cds.closed = s.cds.closed ∧ t.cds.lockCause = s.cds.lockCause ∧
              t.cds.settleDue = s.cds.settleDue ∧ ∀ i : Fin 6, t.dsh[i].latch = s.dsh[i].latch)

/-- DRIVER_TRIP on a driven section: FAULT as Short with its coil and setpoint and no measured current, its dead-time count
set, CoilFault latched, and the supply locked with cause CoilShort unless it is locked: the switch opens, the timers and
every coil stop, each other driven section has its dead-time count set, each section not in FAULT is blocked, every latch is
set, and SupplyLocked is latched. That a trip on a section whose coil is not driven lets only time pass is the model's choice
(log entry 2): R162 says only that it cannot fire (R138, R158, R162, R163, R165, R172). -/
def Obligations.DriverTripFaultsSection : Prop :=
  ∀ (s : State) (dt : Nat) (v : ValveSection),
    s.power.main = true →
      (s.cds.sections[v.index].active ≠ .none → 0 < s.cds.sections[v.index].setpoint →
        ∃ t : State,
          exec (.driverTrip dt v) s = .next t ∧
            t.cds.sections[v.index] =
              { s.cds.sections[v.index] with
                state := .fault
                output := 0
                active := .none
                setpoint := 0
                dead := s.settings.sections[v.index].deadTime
                opens := 0
                fault :=
                  some
                    { cause := .short
                      coil := s.cds.sections[v.index].active
                      setpoint := s.cds.sections[v.index].setpoint
                      measured := none } } ∧
            t.dsh[v.index].output = 0 ∧
            (s.cds.supply ≠ .locked →
              t.cds =
                  { s.cds with
                    sections := t.cds.sections
                    supply := .locked
                    closed := false
                    lockCause := some .coilShort
                    settleDue := none
                    idleDue := none
                    settleLeft := none
                    idleLeft := none } ∧
                ∀ i : Fin 6,
                  t.dsh[i] = { s.dsh[i] with latch := true, output := 0 } ∧
                    (i ≠ v.index →
                      t.cds.sections[i] =
                        { s.cds.sections[i] with
                          state := if s.cds.sections[i].state = .fault then .fault else .blocked
                          output := 0
                          active := .none
                          setpoint := 0
                          dead :=
                            if s.cds.sections[i].state = .driveA ∨ s.cds.sections[i].state = .driveB then
                              s.settings.sections[i].deadTime
                            else s.cds.sections[i].dead })) ∧
            (s.cds.supply = .locked →
              t.cds = { s.cds with sections := t.cds.sections, settleLeft := none, idleLeft := none } ∧
                t.dsh[v.index] = { s.dsh[v.index] with output := 0 } ∧
                ∀ i : Fin 6,
                  i ≠ v.index → t.dsh[i] = s.dsh[i] ∧ t.cds.sections[i] = s.cds.sections[i]) ∧
            t =
              { s with
                now := s.now + dt
                cds := t.cds
                dsh := t.dsh
                clp :=
                  (if s.cds.supply = .locked then latch .coilFault s
                  else latch .supplyLocked (latch .coilFault s)).clp }) ∧
        ((s.cds.sections[v.index].active = .none ∨ s.cds.sections[v.index].setpoint = 0) →
          exec (.driverTrip dt v) s = .next { s with now := s.now + dt })

/-- SUPPLY_SETTLE_EXPIRY at its instant makes a WAKING supply ACTIVE, starts the idle timer, and puts each section not in
FAULT in DEADTIME while its count runs, else BLOCKED or IDLE by its latch; IDLE_TIMER_EXPIRY at its instant puts an ACTIVE
supply ASLEEP, opens the switch, stops every setpoint and latches ActivityTimeout; each publishes the times left in the coil
record. Otherwise only time passes (R165, R169, R170, R172; log entries 2 and 26). -/
def Obligations.SupplyTimersMoveSupply : Prop :=
  ∀ (s : State) (dt : Nat),
    s.power.main = true →
      (∀ due : Nat, s.cds.supply = .waking → s.cds.settleDue = some due → due ≤ s.now + dt →
        ∃ v : Vector CdsSection 6,
          (∀ i : Fin 6,
            v[i] =
              { s.cds.sections[i] with
                state :=
                  if s.cds.sections[i].state = .fault then .fault
                  else if 0 < s.cds.sections[i].dead then .deadtime
                  else if s.dsh[i].latch then .blocked
                  else .idle }) ∧
            exec (.supplySettleExpiry dt) s =
              .next
                { s with
                  now := s.now + dt
                  cds :=
                    { s.cds with
                      sections := v
                      supply := .active
                      settleDue := none
                      idleDue := some (s.now + dt + s.settings.common.idleTime * 1000)
                      settleLeft := none
                      idleLeft := some (s.settings.common.idleTime * 1000) } }) ∧
        ((s.cds.supply ≠ .waking ∨ ∀ due : Nat, s.cds.settleDue = some due → s.now + dt < due) →
          exec (.supplySettleExpiry dt) s = .next { s with now := s.now + dt }) ∧
        (∀ due : Nat, s.cds.supply = .active → s.cds.idleDue = some due → due ≤ s.now + dt →
          ∃ v : Vector CdsSection 6,
            (∀ i : Fin 6, v[i] = { s.cds.sections[i] with setpoint := 0 }) ∧
              exec (.idleTimerExpiry dt) s =
                .next
                  (latch .activityTimeout
                    { s with
                      now := s.now + dt
                      cds :=
                        { s.cds with
                          sections := v, supply := .asleep, closed := false, idleDue := none, settleLeft := none
                          idleLeft := none } })) ∧
        ((s.cds.supply ≠ .active ∨ ∀ due : Nat, s.cds.idleDue = some due → s.now + dt < due) →
          exec (.idleTimerExpiry dt) s = .next { s with now := s.now + dt })

/-! ### Requests of the Demand Shaper and the coil driver -/

/-- SECTION_CONFIG: a section number above 5, a field out of range, or settings that would not agree are BadField; a mode,
range, start index, divider or end mode for a section that moves by its latest record is State; otherwise each field present
replaces its setting. Done carries the settings and the latest record with the demand and latch as they stand; a request
with the number alone is a read in every state (R150 to R152; the record answered: log entry 13). -/
def Obligations.SectionConfigWritesSettings : Prop :=
  ∀ (s : State) (dt : Nat) (tag : Byte) (fields : List Byte) (rest : List InFrame) (r : SectionConfigRequest),
    s.asked 0x11#8 tag fields rest → decodeAll readSectionConfig fields = some r →
      (5 < r.sec → exec (.sectionConfig dt) s = .next (s.replied dt rest 0x11#8 tag .badField .none)) ∧
        ∀ (i : Fin 6) (c : SectionSettings) (m : CommonSettings) (rec : SectionRecord),
          r.sec = i.val →
            c =
              { mode := r.mode.getD s.settings.sections[i].mode
                upStep := r.upStep.getD s.settings.sections[i].upStep
                downStep := r.downStep.getD s.settings.sections[i].downStep
                stopMode := r.stopMode.getD s.settings.sections[i].stopMode
                classA := r.classA.getD s.settings.sections[i].classA
                classB := r.classB.getD s.settings.sections[i].classB
                range := r.range.getD s.settings.sections[i].range
                startIndex := r.startIndex.getD s.settings.sections[i].startIndex
                stepDivider := r.stepDivider.getD s.settings.sections[i].stepDivider
                endMode := r.endMode.getD s.settings.sections[i].endMode
                deadTime := r.deadTime.getD s.settings.sections[i].deadTime
                iMin := r.iMin.getD s.settings.sections[i].iMin
                iMax := r.iMax.getD s.settings.sections[i].iMax } →
            m =
              { expiryTime := r.expiryTime.getD s.settings.common.expiryTime
                idleTime := r.idleTime.getD s.settings.common.idleTime
                settleTime := r.settleTime.getD s.settings.common.settleTime } →
            rec = { s.dsh[i].record with held := s.dsh[i].held, latch := s.dsh[i].latch } →
            s.settings.Sound →
            (¬(c.Sound ∧ inRange 50 500 m.expiryTime ∧ inRange 1 600 m.idleTime ∧ inRange 20 500 m.settleTime) →
              exec (.sectionConfig dt) s = .next (s.replied dt rest 0x11#8 tag .badField .none)) ∧
              (c.Sound ∧ inRange 50 500 m.expiryTime ∧ inRange 1 600 m.idleTime ∧ inRange 20 500 m.settleTime →
                ∀ blocked : Prop,
                  (blocked ↔
                    (r.mode.isSome ∨ r.range.isSome ∨ r.startIndex.isSome ∨ r.stepDivider.isSome ∨ r.endMode.isSome) ∧
                      (s.dsh[i].record.output ≠ 0 ∨ s.dsh[i].record.running = true)) →
                    (blocked → exec (.sectionConfig dt) s = .next (s.replied dt rest 0x11#8 tag .state .none)) ∧
                      (¬blocked →
                        exec (.sectionConfig dt) s =
                          .next
                            { s with
                              now := s.now + dt
                              settings := { s.settings with sections := s.settings.sections.set i c, common := m }
                              clp := s.clp.answered rest 0x11#8 tag .done (.sectionConfig c m rec) }))

/-- PROFILE_WRITE: a table outside 1..3 or an entry above 1 000‰ is BadField; with entries, a sharing section in profile mode
that moves by its latest record makes it State; otherwise the sixteen entries replace the table's. Done carries the table
as it then stands; the table number alone is a read (R146, R153). -/
def Obligations.ProfileWriteReplacesTable : Prop :=
  ∀ (s : State) (dt : Nat) (tag : Byte) (fields : List Byte) (rest : List InFrame) (r : ProfileRequest),
    s.asked 0x12#8 tag fields rest → decodeAll readProfile fields = some r →
      ((r.table = 0 ∨ 3 < r.table ∨ ∃ es ∈ r.entries, ∃ e ∈ es, 1000 < e) →
        exec (.profileWrite dt) s = .next (s.replied dt rest 0x12#8 tag .badField .none)) ∧
        ∀ (t : Fin 3) (a b : Fin 6),
          ((r.table = 1 ∧ t = 0 ∧ a = 0 ∧ b = 4) ∨ (r.table = 2 ∧ t = 1 ∧ a = 1 ∧ b = 2) ∨
              (r.table = 3 ∧ t = 2 ∧ a = 3 ∧ b = 5)) →
            (r.entries = none →
              exec (.profileWrite dt) s =
                .next (s.replied dt rest 0x12#8 tag .done (.profile s.settings.profiles[t]))) ∧
              ∀ es : List Nat,
                r.entries = some es → (∀ e ∈ es, e ≤ 1000) →
                  ∀ busy : Prop,
                    (busy ↔
                      ∃ i ∈ [a, b],
                        s.dsh[i].record.mode = .profile ∧
                          (s.dsh[i].record.output ≠ 0 ∨ s.dsh[i].record.running = true)) →
                      (busy → exec (.profileWrite dt) s = .next (s.replied dt rest 0x12#8 tag .state .none)) ∧
                        (¬busy →
                          ∃ v : Vector Nat 16,
                            v.toList = es ∧
                              exec (.profileWrite dt) s =
                                .next
                                  { s with
                                    now := s.now + dt
                                    settings := { s.settings with profiles := s.settings.profiles.set t v }
                                    clp := s.clp.answered rest 0x12#8 tag .done (.profile v) })

/-- RELEASE: in LOCKED with a section in FAULT as Short it is refused with State; in LOCKED otherwise the supply goes ASLEEP
and the lock cause is cleared; in any other supply state nothing is done. Every reply carries the supply state, the lock
cause and the fault records of the sections in FAULT as they then stand (R166). -/
def Obligations.ReleaseUnlocksSupply : Prop :=
  ∀ (s : State) (dt : Nat) (tag : Byte) (rest : List InFrame),
    s.asked 0x14#8 tag [] rest →
      ∃ records : Vector (Option FaultRecord) 6,
        (∀ i : Fin 6, records[i] = if s.cds.sections[i].state = .fault then s.cds.sections[i].fault else none) ∧
          (s.cds.supply = .locked →
            ((∃ (i : Fin 6) (f : FaultRecord),
                s.cds.sections[i].state = .fault ∧ s.cds.sections[i].fault = some f ∧ f.cause = .short) →
              exec (.release dt) s =
                .next (s.replied dt rest 0x14#8 tag .state (.release .locked s.cds.lockCause records))) ∧
              (¬(∃ (i : Fin 6) (f : FaultRecord),
                  s.cds.sections[i].state = .fault ∧ s.cds.sections[i].fault = some f ∧ f.cause = .short) →
                exec (.release dt) s =
                  .next
                    { s with
                      now := s.now + dt
                      cds :=
                        { s.cds with
                          supply := .asleep, lockCause := none, settleLeft := none, idleLeft := none }
                      clp := s.clp.answered rest 0x14#8 tag .done (.release .asleep none records) })) ∧
          (s.cds.supply ≠ .locked →
            exec (.release dt) s =
              .next (s.replied dt rest 0x14#8 tag .done (.release s.cds.supply s.cds.lockCause records)))

/-- FAULT_CLEAR: a selector above 6 is BadField; otherwise each selected section in FAULT goes to BLOCKED with its record
cleared and its latch set, and every other section is unchanged, latch included; the coil record is published when a state
changes. Done carries the six states, the supply state and the lock cause as they then stand (R138, R164, R172; log entry
26). -/
def Obligations.FaultClearReleasesSections : Prop :=
  ∀ (s : State) (dt : Nat) (tag selector : Byte) (rest : List InFrame),
    s.asked 0x15#8 tag [selector] rest →
      (6 < selector.toNat → exec (.faultClear dt) s = .next (s.replied dt rest 0x15#8 tag .badField .none)) ∧
        (selector.toNat ≤ 6 →
          ∃ (v : Vector CdsSection 6) (d : Vector DshSection 6) (states : Vector SectionState 6) (c : Cds)
              (changed : Prop),
            (changed ↔ ∃ i : Fin 6,
              (selector.toNat = i.val ∨ selector.toNat = 6) ∧ s.cds.sections[i].state = .fault) ∧
              (¬changed → c = s.cds) ∧
              (changed →
                c =
                  { s.cds with
                    sections := v
                    settleLeft := if s.cds.supply = .waking then s.cds.settleDue.map (· - (s.now + dt)) else none
                    idleLeft := if s.cds.supply = .active then s.cds.idleDue.map (· - (s.now + dt)) else none }) ∧
            (∀ i : Fin 6,
              states[i] = v[i].state ∧
                ((selector.toNat = i.val ∨ selector.toNat = 6) → s.cds.sections[i].state = .fault →
                  v[i] = { s.cds.sections[i] with state := .blocked, fault := none } ∧
                    d[i] = { s.dsh[i] with latch := true }) ∧
                (¬((selector.toNat = i.val ∨ selector.toNat = 6) ∧ s.cds.sections[i].state = .fault) →
                  v[i] = s.cds.sections[i] ∧ d[i] = s.dsh[i])) ∧
              exec (.faultClear dt) s =
                .next
                  { s with
                    now := s.now + dt
                    cds := c
                    dsh := d
                    clp := s.clp.answered rest 0x15#8 tag .done (.faultClear states s.cds.supply s.cds.lockCause) })

/-! ### Requests of the weigh capture engine -/

/-- ARM and DISARM, by the engine state, each reply with the snapshot of the state after it: in IDLE they set and clear the
pre-arm; ARM in GRIPPED arms with a valid record, and then tests the lift trigger at once, or is refused NoCal; DISARM in
ARMED goes to GRIPPED and ends a capture as Disarmed, its pending lift holding window count, spread and counts of the window
as it stood; ARM is refused Busy in COLLECTING, SUSPENDED and HELD; the rest
changes nothing. The snapshot shows state, pre-arm, auto-arm, grip number and the validity read last, the origin while a grip
is open, the capture figures in COLLECTING and SUSPENDED alone, the suspend time left in SUSPENDED and the pending lift in
HELD (R49, R51, R52, R53, R65, R73; the validity read: log entry 10). -/
def Obligations.ArmAndDisarm : Prop :=
  (∀ (s : State) (e : EngineSnapshot),
    e = s.snapshot →
      e.state = s.wce.state ∧ e.preArm = s.wce.preArm ∧ e.autoArm = s.settings.capture.autoArm ∧
        e.grip = s.wce.grip ∧ e.validityRead = s.wce.validityRead ∧ (s.wce.state = .idle → e.origin = none) ∧
        (s.wce.state ≠ .idle → e.origin = s.wce.origin) ∧
        ((s.wce.state = .collecting ∨ s.wce.state = .suspended) →
          e.capture =
            some
              { remaining := s.wce.remaining
                extLeft := s.wce.extLeft
                rejects := s.wce.rejects
                accepted := s.wce.accepted
                windowCount := s.wce.window.length
                extended := s.wce.extended }) ∧
        (s.wce.state ≠ .collecting → s.wce.state ≠ .suspended → e.capture = none) ∧
        (s.wce.state = .suspended → e.suspendLeft = s.wce.suspendDue.map (· - s.now)) ∧
        (s.wce.state ≠ .suspended → e.suspendLeft = none) ∧ (s.wce.state = .held → e.held = s.wce.held) ∧
        (s.wce.state ≠ .held → e.held = none)) ∧
  ∀ (s : State) (dt : Nat) (tag : Byte) (rest : List InFrame),
    (s.asked 0x20#8 tag [] rest →
      ∀ u : State, u = s.tick dt →
        (s.wce.state = .idle →
          exec (.arm dt) s =
            .next
              { u with
                wce := { s.wce with preArm := true }
                clp :=
                  s.clp.answered rest 0x20#8 tag .done
                    (.snapshot { u.snapshot with preArm := true }) }) ∧
          (s.wce.state = .gripped → s.calValid = true →
            ∃ e : Wce,
              e = (liftConditions { u with wce := { s.wce with state := .armed, validityRead := true } }).wce ∧
                exec (.arm dt) s =
                  .next
                    { u with
                      wce := e
                      clp := s.clp.answered rest 0x20#8 tag .done (.snapshot { u with wce := e }.snapshot) }) ∧
          (s.wce.state = .gripped → s.calValid = false →
            exec (.arm dt) s =
              .next
                { u with
                  wce := { s.wce with validityRead := false }
                  clp :=
                    s.clp.answered rest 0x20#8 tag .noCal (.snapshot { u.snapshot with validityRead := false }) }) ∧
          (s.wce.state = .armed →
            exec (.arm dt) s = .next (s.replied dt rest 0x20#8 tag .done (.snapshot u.snapshot))) ∧
          ((s.wce.state = .collecting ∨ s.wce.state = .suspended ∨ s.wce.state = .held) →
            exec (.arm dt) s = .next (s.replied dt rest 0x20#8 tag .busy (.snapshot u.snapshot)))) ∧
      (s.asked 0x21#8 tag [] rest →
        ∀ u : State, u = s.tick dt →
          (s.wce.state = .idle →
            exec (.disarm dt) s =
              .next
                { u with
                  wce := { s.wce with preArm := false }
                  clp :=
                    s.clp.answered rest 0x21#8 tag .done
                      (.snapshot { u.snapshot with preArm := false }) }) ∧
            (s.wce.state = .armed →
              exec (.disarm dt) s =
                .next
                  { u with
                    wce := { s.wce with state := .gripped }
                    clp :=
                      s.clp.answered rest 0x21#8 tag .done
                        (.snapshot { u with wce := { s.wce with state := .gripped } }.snapshot) }) ∧
            ((s.wce.state = .collecting ∨ s.wce.state = .suspended) →
              ∃ (p : PendingLift) (e : Wce),
                p.grip = s.wce.grip ∧ p.outcome = .unweighed .disarmed ∧ p.n = s.wce.window.length ∧
                  p.accepted = s.wce.accepted ∧ p.rejects = s.wce.rejects ∧ p.extUsed = s.wce.extUsed ∧
                  p.extended = s.wce.extended ∧ p.belowTare = false ∧ (p.spread = none ↔ s.wce.window = []) ∧
                  (∀ w : Nat, p.spread = some w →
                    (∃ x ∈ s.wce.window, ∃ y ∈ s.wce.window, (w : Int) = x.force - y.force) ∧
                      ∀ x ∈ s.wce.window, ∀ y ∈ s.wce.window, x.force - y.force ≤ w) ∧
                  e = { s.wce with window := [], suspendDue := none, state := .held, held := some p } ∧
                  exec (.disarm dt) s =
                    .next
                      { u with
                        wce := e
                        clp :=
                          (s.clp.answered rest 0x21#8 tag .done (.snapshot { u with wce := e }.snapshot)).raise
                            (.weighResult p) }) ∧
            ((s.wce.state = .gripped ∨ s.wce.state = .held) →
              exec (.disarm dt) s = .next (s.replied dt rest 0x21#8 tag .done (.snapshot u.snapshot))))

/-- CAPTURE_CONFIG: a field out of range is BadField; a field present while a capture or a tare runs is Busy; otherwise each
field present replaces its setting, and Done carries the eleven settings and the snapshot; with no field it is a read in
every state. The snapshot's fields are those of `ArmAndDisarm` (R71, R73). -/
def Obligations.CaptureConfigWritesSettings : Prop :=
  ∀ (s : State) (dt : Nat) (tag : Byte) (fields : List Byte) (rest : List InFrame) (r : CaptureRequest)
    (c : CaptureSettings),
    s.asked 0x22#8 tag fields rest → decodeAll readCapture fields = some r → s.settings.capture.Sound →
      c =
        { gripThreshold := r.gripThreshold.getD s.settings.capture.gripThreshold
          holdTime := r.holdTime.getD s.settings.capture.holdTime
          autoArm := r.autoArm.getD s.settings.capture.autoArm
          liftThreshold := r.liftThreshold.getD s.settings.capture.liftThreshold
          budget := r.budget.getD s.settings.capture.budget
          maxExtensions := r.maxExtensions.getD s.settings.capture.maxExtensions
          extensionSize := r.extensionSize.getD s.settings.capture.extensionSize
          rejectLimit := r.rejectLimit.getD s.settings.capture.rejectLimit
          swingLimit := r.swingLimit.getD s.settings.capture.swingLimit
          spreadLimit := r.spreadLimit.getD s.settings.capture.spreadLimit
          suspendTime := r.suspendTime.getD s.settings.capture.suspendTime } →
      (¬c.Sound → exec (.captureConfig dt) s = .next (s.replied dt rest 0x22#8 tag .badField .none)) ∧
        (c.Sound →
          ∀ busy : Prop,
            (busy ↔
              fields ≠ [0x00#8, 0x00#8] ∧
                (s.wce.state = .collecting ∨ s.wce.state = .suspended ∨ s.wlc.tare.state = .running)) →
              (busy → exec (.captureConfig dt) s = .next (s.replied dt rest 0x22#8 tag .busy .none)) ∧
                (¬busy →
                  exec (.captureConfig dt) s =
                    .next
                      { s with
                        now := s.now + dt
                        settings := { s.settings with capture := c }
                        clp :=
                          s.clp.answered rest 0x22#8 tag .done
                            (.captureConfig c { (s.tick dt).snapshot with autoArm := c.autoArm }) }))

/-! ### Requests of the load tally -/

/-- ASSORTMENT, READ_LIFTS and READ_TOTALS. A value out of range is BadField. The assortment carried replaces the current
one, and without it the request is a read; Read lifts answers the first records, up to count, of those from the number on,
with the more flag, the list length and the counter; Read totals answers count entries from first upward, of the current
trip or of the closed one, with the trip figures, and Empty while there is no closed trip (R87, R92, R93). -/
def Obligations.TallyReadsAnswer : Prop :=
  ∀ (s : State) (dt : Nat) (tag : Byte) (fields : List Byte) (rest : List InFrame),
    (∀ r : Option Nat,
      s.asked 0x30#8 tag fields rest → decodeAll readOptU8 fields = some r →
        (∀ n : Nat, r = some n → 15 < n →
          exec (.assortment dt) s = .next (s.replied dt rest 0x30#8 tag .badField .none)) ∧
          ∀ a : Fin 16, (r = some a.val ∨ (r = none ∧ a = s.lt.assortment)) →
            exec (.assortment dt) s =
              .next
                { s with
                  now := s.now + dt
                  lt := { s.lt with assortment := a }
                  clp := s.clp.answered rest 0x30#8 tag .done (.assortment a) }) ∧
      (∀ r : ReadLiftsRequest,
        s.asked 0x31#8 tag fields rest → decodeAll readReadLifts fields = some r →
          ((r.count = 0 ∨ 8 < r.count) →
            exec (.readLifts dt) s = .next (s.replied dt rest 0x31#8 tag .badField .none)) ∧
            (1 ≤ r.count → r.count ≤ 8 →
              ∃ (records others : List LiftRecord) (more : Bool),
                records ++ others = s.lt.lifts.filter (fun x => decide (r.from_ ≤ x.number)) ∧
                  records.length ≤ r.count ∧ (others ≠ [] → records.length = r.count) ∧
                  (more = true ↔ others ≠ []) ∧
                  exec (.readLifts dt) s =
                    .next
                      (s.replied dt rest 0x31#8 tag .done
                        (.lifts records more s.lt.lifts.length s.lt.counter)))) ∧
      ∀ r : ReadTotalsRequest,
        s.asked 0x32#8 tag fields rest → decodeAll readReadTotals fields = some r →
          ((r.count = 0 ∨ 2 < r.count ∨ 15 < r.first ∨ 16 < r.first + r.count) →
            exec (.readTotals dt) s = .next (s.replied dt rest 0x32#8 tag .badField .none)) ∧
            (1 ≤ r.count → r.count ≤ 2 → r.first + r.count ≤ 16 →
              (r.selector = .current →
                ∃ entries : List TallyEntry,
                  entries.length = r.count ∧
                    (∀ (k : Nat) (a : Fin 16), k < r.count → a.val = r.first + k →
                      entries[k]? = some s.lt.table[a]) ∧
                    exec (.readTotals dt) s =
                      .next
                        (s.replied dt rest 0x32#8 tag .done
                          (.totals entries
                            (.current
                              { number := s.lt.number
                                counter := s.lt.counter
                                assortment := s.lt.assortment
                                lastUnlisted := s.lt.lastUnlisted
                                listLength := s.lt.lifts.length
                                estimate := s.lt.estimate
                                payloadLimit := s.settings.payloadLimit
                                warnLevel := s.settings.payloadLimit * 95 / 100
                                payload := s.payload })))) ∧
                (r.selector = .closed → s.lt.closed = none →
                  exec (.readTotals dt) s = .next (s.replied dt rest 0x32#8 tag .empty .none)) ∧
                ∀ c : ClosedTrip, r.selector = .closed → s.lt.closed = some c →
                  ∃ entries : List TallyEntry,
                    entries.length = r.count ∧
                      (∀ (k : Nat) (a : Fin 16), k < r.count → a.val = r.first + k →
                        entries[k]? = some c.table[a]) ∧
                      exec (.readTotals dt) s =
                        .next
                          (s.replied dt rest 0x32#8 tag .done
                            (.totals entries
                              (.closed
                                { number := c.number
                                  counter := c.counter
                                  listLength := c.listLength
                                  estimate := c.estimate
                                  payloadLimit := c.payloadLimit }))))

/-- UNDO_LAST, CORRECT and REASSIGN. Undo last is Empty on an empty list and Unlisted with the flag set; otherwise the newest
record and its contributions leave. Correct is BadField, NotFound, NoMass or, past a total's greatest value, State; otherwise
the correction is replaced and the change in effective mass joins the total. Reassign is BadField, NotFound or State;
otherwise count, weighed count and effective mass move to the other entry, with no payload test. Undo last and Correct
recompute the estimate and test the payload levels; every other entry and record stands (R79, R85, R89 to R91). -/
def Obligations.UndoCorrectReassign : Prop :=
  ∀ (s : State) (dt : Nat) (tag : Byte) (fields : List Byte) (rest : List InFrame),
    s.lt.Sound →
      (s.asked 0x33#8 tag [] rest →
        (s.lt.lifts = [] → exec (.undoLast dt) s = .next (s.replied dt rest 0x33#8 tag .empty .none)) ∧
          (s.lt.lifts ≠ [] → s.lt.lastUnlisted = true →
            exec (.undoLast dt) s = .next (s.replied dt rest 0x33#8 tag .unlisted .none)) ∧
          ∀ (others : List LiftRecord) (x : LiftRecord),
            s.lt.lifts = others ++ [x] → s.lt.lastUnlisted = false →
              ∃ table : Vector TallyEntry 16,
                table[x.assortment].dir x.direction =
                    { s.lt.table[x.assortment].dir x.direction with
                      count := (s.lt.table[x.assortment].dir x.direction).count - 1
                      weighed :=
                        (s.lt.table[x.assortment].dir x.direction).weighed - (if x.mass = none then 0 else 1)
                      mass := (s.lt.table[x.assortment].dir x.direction).mass - x.effective.getD 0 } ∧
                  (∀ (a : Fin 16) (d : LiftDirection), (a ≠ x.assortment ∨ d ≠ x.direction) →
                    table[a].dir d = s.lt.table[a].dir d) ∧
                  exec (.undoLast dt) s =
                    .next
                      (payloadTest s.payload
                        { s with
                          now := s.now + dt
                          lt :=
                            { s.lt with
                              lifts := others
                              table := table
                              estimate :=
                                if x.direction = .load then s.lt.estimate - (x.effective.getD 0 : Nat)
                                else s.lt.estimate + (x.effective.getD 0 : Nat) }
                          clp := s.clp.answered rest 0x33#8 tag .done (.lift x) })) ∧
        (∀ r : CorrectRequest,
          s.asked 0x34#8 tag fields rest → decodeAll readCorrect fields = some r →
            ((r.number = 0 ∨ r.correction < -500 ∨ 500 < r.correction) →
              exec (.correct dt) s = .next (s.replied dt rest 0x34#8 tag .badField .none)) ∧
              (1 ≤ r.number → -500 ≤ r.correction → r.correction ≤ 500 →
                ((∀ x ∈ s.lt.lifts, x.number ≠ r.number) →
                  exec (.correct dt) s = .next (s.replied dt rest 0x34#8 tag .notFound .none)) ∧
                  ∀ (before after : List LiftRecord) (x : LiftRecord),
                    s.lt.lifts = before ++ x :: after → x.number = r.number →
                      (x.mass = none →
                        exec (.correct dt) s = .next (s.replied dt rest 0x34#8 tag .noMass .none)) ∧
                        ∀ m old new : Nat,
                          x.mass = some m → (old : Int) = max 0 ((m : Int) + x.correction.getD 0) →
                            (new : Int) = max 0 ((m : Int) + r.correction) →
                              (4294967295 < (s.lt.table[x.assortment].dir x.direction).mass + new - old →
                                exec (.correct dt) s = .next (s.replied dt rest 0x34#8 tag .state .none)) ∧
                                ((s.lt.table[x.assortment].dir x.direction).mass + new - old ≤ 4294967295 →
                                  ∃ table : Vector TallyEntry 16,
                                    table[x.assortment].dir x.direction =
                                        { s.lt.table[x.assortment].dir x.direction with
                                          mass := (s.lt.table[x.assortment].dir x.direction).mass + new - old } ∧
                                      (∀ (a : Fin 16) (d : LiftDirection), (a ≠ x.assortment ∨ d ≠ x.direction) →
                                        table[a].dir d = s.lt.table[a].dir d) ∧
                                      exec (.correct dt) s =
                                        .next
                                          (payloadTest s.payload
                                            { s with
                                              now := s.now + dt
                                              lt :=
                                                { s.lt with
                                                  lifts :=
                                                    before ++ { x with correction := some r.correction } :: after
                                                  table := table
                                                  estimate :=
                                                    if x.direction = .load then s.lt.estimate + new - old
                                                    else s.lt.estimate - new + old }
                                              clp :=
                                                s.clp.answered rest 0x34#8 tag .done
                                                  (.corrected { x with correction := some r.correction } old
                                                    new) })))) ∧
        ∀ r : ReassignRequest,
          s.asked 0x35#8 tag fields rest → decodeAll readReassign fields = some r →
            ((r.number = 0 ∨ 15 < r.assortment) →
              exec (.reassign dt) s = .next (s.replied dt rest 0x35#8 tag .badField .none)) ∧
              ∀ a : Fin 16,
                1 ≤ r.number → r.assortment = a.val →
                  ((∀ x ∈ s.lt.lifts, x.number ≠ r.number) →
                    exec (.reassign dt) s = .next (s.replied dt rest 0x35#8 tag .notFound .none)) ∧
                    ∀ (before after : List LiftRecord) (x : LiftRecord),
                      s.lt.lifts = before ++ x :: after → x.number = r.number →
                        (x.assortment = a →
                          exec (.reassign dt) s = .next (s.replied dt rest 0x35#8 tag .done (.lift x))) ∧
                          ∀ old new : DirTotals,
                            x.assortment ≠ a →
                              old =
                                { s.lt.table[x.assortment].dir x.direction with
                                  count := (s.lt.table[x.assortment].dir x.direction).count - 1
                                  weighed :=
                                    (s.lt.table[x.assortment].dir x.direction).weighed -
                                      (if x.mass = none then 0 else 1)
                                  mass :=
                                    (s.lt.table[x.assortment].dir x.direction).mass - x.effective.getD 0 } →
                              new =
                                { s.lt.table[a].dir x.direction with
                                  count := (s.lt.table[a].dir x.direction).count + 1
                                  weighed :=
                                    (s.lt.table[a].dir x.direction).weighed + (if x.mass = none then 0 else 1)
                                  mass := (s.lt.table[a].dir x.direction).mass + x.effective.getD 0 } →
                              ((4294967295 < new.count ∨ 4294967295 < new.weighed ∨ 4294967295 < new.mass) →
                                exec (.reassign dt) s = .next (s.replied dt rest 0x35#8 tag .state .none)) ∧
                                (new.count ≤ 4294967295 → new.weighed ≤ 4294967295 → new.mass ≤ 4294967295 →
                                  ∃ table : Vector TallyEntry 16,
                                    table[x.assortment].dir x.direction = old ∧ table[a].dir x.direction = new ∧
                                      (∀ (b : Fin 16) (d : LiftDirection),
                                        ((b ≠ x.assortment ∧ b ≠ a) ∨ d ≠ x.direction) →
                                          table[b].dir d = s.lt.table[b].dir d) ∧
                                      exec (.reassign dt) s =
                                        .next
                                          { s with
                                            now := s.now + dt
                                            lt :=
                                              { s.lt with
                                                lifts := before ++ { x with assortment := a } :: after
                                                table := table }
                                            clp :=
                                              s.clp.answered rest 0x35#8 tag .done
                                                (.lift { x with assortment := a }) })

/-- MANUAL_LIFT, TRIP_CLOSE and PAYLOAD_LIMIT, with the payload test. A manual lift is BadField out of range and State past a
total's greatest value; otherwise it is numbered, listed while the counter can advance and the list has room, else counted
unlisted with ListFull latched; its totals, the flag and the estimate follow. Trip close writes the summary, empties the
trip and advances its number, latching nothing. The payload limit is replaced, or read. The payload state is FULL at or
above the limit, WARN from 95% of it, and a rise latches what R84 names (R79 to R85, R88, R94, R97). -/
def Obligations.FilingsTripCloseAndPayload : Prop :=
  ∀ (s : State) (dt : Nat) (tag : Byte) (fields : List Byte) (rest : List InFrame),
    (∀ r : ManualRequest,
      s.asked 0x36#8 tag fields rest → decodeAll readManual fields = some r → s.lt.Sound →
        ((15 < r.assortment ∨ ∃ m, r.mass = some m ∧ 4095 < m) →
          exec (.manualLift dt) s = .next (s.replied dt rest 0x36#8 tag .badField .none)) ∧
          ∀ (a : Fin 16) (listed : Bool) (m w number : Nat) (old new : DirTotals),
            r.assortment = a.val → (∀ x, r.mass = some x → x ≤ 4095) →
              (listed = true ↔ s.lt.counter < 65535 ∧ s.lt.lifts.length < 96) → m = r.mass.getD 0 →
                w = (if r.mass = none then 0 else 1) →
                  number = (if s.lt.counter < 65535 then s.lt.counter + 1 else 65535) →
                    old = s.lt.table[a].dir r.direction →
                      new =
                        { count := old.count + 1
                          weighed := old.weighed + w
                          mass := old.mass + m
                          unlisted := if listed then old.unlisted else old.unlisted + 1
                          unlistedMass := if listed then old.unlistedMass else old.unlistedMass + m } →
                        ((∃ x ∈ [new.count, new.weighed, new.mass, new.unlisted, new.unlistedMass], 4294967295 < x) →
                          exec (.manualLift dt) s = .next (s.replied dt rest 0x36#8 tag .state .none)) ∧
                          ((∀ x ∈ [new.count, new.weighed, new.mass, new.unlisted, new.unlistedMass], x ≤ 4294967295) →
                            ∃ (table : Vector TallyEntry 16) (flags : LiftFlags) (u : State),
                              flags =
                                  { extended := false, belowTare := false, manual := true, geometryUnknown := false } ∧
                                table[a].dir r.direction = new ∧
                                (∀ (b : Fin 16) (d : LiftDirection), (b ≠ a ∨ d ≠ r.direction) →
                                  table[b].dir d = s.lt.table[b].dir d) ∧
                                u =
                                  { s with
                                    now := s.now + dt
                                    lt :=
                                      { s.lt with
                                        counter := number
                                        lastUnlisted := !listed
                                        lifts :=
                                          if listed then
                                            s.lt.lifts ++
                                              [{ number := number, direction := r.direction, assortment := a,
                                                 mass := r.mass, correction := none, flags := flags }]
                                          else s.lt.lifts
                                        table := table
                                        estimate :=
                                          if r.direction = .load then s.lt.estimate + m else s.lt.estimate - m }
                                    clp :=
                                      s.clp.answered rest 0x36#8 tag .done
                                        (.filed
                                          { number := number, listed := listed, direction := r.direction,
                                            assortment := a, mass := r.mass, flags := flags }) } ∧
                                exec (.manualLift dt) s =
                                  .next (payloadTest s.payload (if listed then u else latch .listFull u)))) ∧
      (s.asked 0x37#8 tag [] rest →
        ∃ (table : Vector TallyEntry 16) (number : Nat),
          (∀ (a : Fin 16) (d : LiftDirection),
            table[a].dir d = { count := 0, weighed := 0, mass := 0, unlisted := 0, unlistedMass := 0 }) ∧
            number = (if s.lt.number < 65535 then s.lt.number + 1 else 1) ∧
            exec (.tripClose dt) s =
              .next
                { s with
                  now := s.now + dt
                  lt :=
                    { number := number
                      counter := 0
                      assortment := s.lt.assortment
                      lastUnlisted := false
                      estimate := 0
                      lifts := []
                      table := table
                      closed :=
                        some
                          { number := s.lt.number
                            counter := s.lt.counter
                            listLength := s.lt.lifts.length
                            estimate := s.lt.estimate
                            payloadLimit := s.settings.payloadLimit
                            table := s.lt.table } }
                  clp :=
                    s.clp.answered rest 0x37#8 tag .done
                      (.tripClosed s.lt.number s.lt.counter s.lt.lifts.length s.lt.estimate number) }) ∧
      (∀ r : Option Nat,
        s.asked 0x38#8 tag fields rest → decodeAll readOptU16 fields = some r →
          (r = none →
            exec (.payloadLimit dt) s =
              .next
                (s.replied dt rest 0x38#8 tag .done
                  (.payload s.settings.payloadLimit (s.settings.payloadLimit * 95 / 100) s.lt.estimate s.payload))) ∧
            (∀ n, r = some n → (n < 1000 ∨ 30000 < n) →
              exec (.payloadLimit dt) s = .next (s.replied dt rest 0x38#8 tag .badField .none)) ∧
            ∀ n, r = some n → 1000 ≤ n → n ≤ 30000 →
              ∃ u : State,
                u =
                  { s with
                    now := s.now + dt
                    settings := { s.settings with payloadLimit := n }
                    clp :=
                      s.clp.answered rest 0x38#8 tag .done
                        (.payload n (n * 95 / 100) s.lt.estimate
                          { s with settings := { s.settings with payloadLimit := n } }.payload) } ∧
                  exec (.payloadLimit dt) s = .next (payloadTest s.payload u)) ∧
      (s.payload = .full ↔ (s.settings.payloadLimit : Int) ≤ s.lt.estimate) ∧
      (s.payload = .normal ↔
        s.lt.estimate < (s.settings.payloadLimit : Int) ∧
          s.lt.estimate < (s.settings.payloadLimit * 95 / 100 : Nat)) ∧
      ∀ before : PayloadState,
        payloadTest before s =
          if before = .normal ∧ s.payload = .warn then latch .payloadWarn s
          else if before = .normal ∧ s.payload = .full then latch .payloadFull (latch .payloadWarn s)
          else if before = .warn ∧ s.payload = .full then latch .payloadFull s
          else s

/-! ### Zones and settings -/

/-- ZONE_WRITE, ZONE_ENABLE and ZONE_READ. A zone above 7 is BadField. A write with a field out of range is BadField, with
any field while the zone is enabled State, otherwise each field present replaces its value; without fields it is a read. An
enable of a disabled zone whose bounds are out of order is BadField; otherwise the enable takes the value. A read answers
the zone, the bounds, membership and armed flag of the latest evaluation, the guard of an armed STOP zone off the tip, and
the summary. The guard uses the model's reading of R113, the side is ABOVE where the tip is on both, the guard absent where
it is on neither, and before the first scan the restart record is shown, all the model's choice (log entries 14, 35, 44 and
34) (R106, R110 to R113). -/
def Obligations.ZoneRequestsWriteZones : Prop :=
  ∀ (s : State) (dt : Nat) (tag : Byte) (fields : List Byte) (rest : List InFrame),
    (∀ r : ZoneWriteRequest,
      s.asked 0x40#8 tag fields rest → decodeAll readZoneWrite fields = some r →
        ∀ bad : Prop,
          (bad ↔
            7 < r.zone ∨ (∃ x ∈ r.slewStart, x < -1900 ∨ 1900 < x) ∨ (∃ x ∈ r.slewStop, x < -1900 ∨ 1900 < x) ∨
              (∃ x ∈ r.reachMin, 12000 < x) ∨ (∃ x ∈ r.reachMax, 12000 < x) ∨ (∃ x ∈ r.slow, 1000 < x) ∨
              ∃ x ∈ r.guard, 300 < x) →
            (bad → exec (.zoneWrite dt) s = .next (s.replied dt rest 0x40#8 tag .badField .none)) ∧
              ∀ (i : Fin 8) (z : Zone) (any : Prop),
                ¬bad → r.zone = i.val →
                  z =
                    { enable := s.settings.zones[i].enable
                      kind := r.kind.getD s.settings.zones[i].kind
                      chassis := r.chassis.getD s.settings.zones[i].chassis
                      slewStart := r.slewStart.getD s.settings.zones[i].slewStart
                      slewStop := r.slewStop.getD s.settings.zones[i].slewStop
                      reachMin := r.reachMin.getD s.settings.zones[i].reachMin
                      reachMax := r.reachMax.getD s.settings.zones[i].reachMax
                      slow := r.slow.getD s.settings.zones[i].slow
                      guard := r.guard.getD s.settings.zones[i].guard } →
                    (any ↔
                      r.kind ≠ none ∨ r.chassis ≠ none ∨ r.slewStart ≠ none ∨ r.slewStop ≠ none ∨ r.reachMin ≠ none ∨
                        r.reachMax ≠ none ∨ r.slow ≠ none ∨ r.guard ≠ none) →
                      (any → s.settings.zones[i].enable = true →
                        exec (.zoneWrite dt) s = .next (s.replied dt rest 0x40#8 tag .state .none)) ∧
                        ((¬any ∨ s.settings.zones[i].enable = false) →
                          exec (.zoneWrite dt) s =
                            .next
                              { s with
                                now := s.now + dt
                                settings := { s.settings with zones := s.settings.zones.set i z }
                                clp := s.clp.answered rest 0x40#8 tag .done (.zone z) })) ∧
      (∀ r : ZoneEnableRequest,
        s.asked 0x41#8 tag fields rest → decodeAll readZoneEnable fields = some r →
          (7 < r.zone → exec (.zoneEnable dt) s = .next (s.replied dt rest 0x41#8 tag .badField .none)) ∧
            ∀ (i : Fin 8) (turned : Prop),
              r.zone = i.val →
                (turned ↔
                  r.enable = true ∧ s.settings.zones[i].enable = false ∧
                    (s.settings.zones[i].slewStop < s.settings.zones[i].slewStart ∨
                      s.settings.zones[i].reachMax < s.settings.zones[i].reachMin)) →
                  (turned → exec (.zoneEnable dt) s = .next (s.replied dt rest 0x41#8 tag .badField .none)) ∧
                    (¬turned →
                      exec (.zoneEnable dt) s =
                        .next
                          { s with
                            now := s.now + dt
                            settings :=
                              { s.settings with
                                zones :=
                                  s.settings.zones.set i { s.settings.zones[i] with enable := r.enable } }
                            clp := s.clp.answered rest 0x41#8 tag .done .none })) ∧
      ∀ n : Byte,
        s.asked 0x42#8 tag [n] rest →
          (7 < n.toNat → exec (.zoneRead dt) s = .next (s.replied dt rest 0x42#8 tag .badField .none)) ∧
            ∀ (i : Fin 8) (z : Zone) (e : ZoneEval),
              n.toNat = i.val → z = s.settings.zones[i] → e = s.evm.zones[i] →
                ∃ p : ZoneReadReply,
                  exec (.zoneRead dt) s = .next (s.replied dt rest 0x42#8 tag .done (.zoneRead p)) ∧
                    p.zone = z ∧ p.bounds = e.bounds ∧ p.membership = e.membership ∧
                    p.armed = (if z.kind = .stop then some e.armed else none) ∧ p.slew = s.ssu.record.slew ∧
                    p.reach = s.ssu.record.reach ∧ p.tipValid = s.ssu.record.tipValid ∧ p.bunk = s.evm.bunk ∧
                    p.slow = s.evm.slow ∧ p.slewA = s.evm.slewA ∧ p.slewB = s.evm.slewB ∧
                    p.intrusion = s.evm.intrusion ∧
                    ((z.kind ≠ .stop ∨ e.armed = false ∨ e.membership ≠ .outZone ∨ z.slewStop < z.slewStart) →
                      p.guard = none) ∧
                    ∀ (start stop : Int) (d : Nat),
                      z.kind = .stop → e.armed = true → e.membership = .outZone → z.slewStart ≤ z.slewStop →
                        e.bounds = some (start, stop) →
                          ((s.ssu.record.slew < start ∧ (d : Int) = start - s.ssu.record.slew) →
                            p.guard =
                              some
                                { side := .above
                                  delta := d
                                  factor := if z.guard ≤ d then 1000 else d * 1000 / z.guard }) ∧
                            ((start ≤ s.ssu.record.slew ∧ stop < s.ssu.record.slew ∧
                                (d : Int) = s.ssu.record.slew - stop) →
                              p.guard =
                                some
                                  { side := .below
                                    delta := d
                                    factor := if z.guard ≤ d then 1000 else d * 1000 / z.guard }) ∧
                            (start ≤ s.ssu.record.slew → s.ssu.record.slew ≤ stop → p.guard = none)

/-- LIMITER_CONFIG, RATED_WRITE, CHANNEL_CALIBRATION and GEOMETRY_CONFIG: a field out of range, settings that would not agree
or a channel above 8 are BadField; otherwise each field present replaces its setting, in every state, and Done carries the
settings as they then stand with the latest limiter record, channel state and value, or reach and validity; without fields
each is a read (R16, R17, R131, R132). -/
def Obligations.SettingRequestsWriteSettings : Prop :=
  ∀ (s : State) (dt : Nat) (tag : Byte) (fields : List Byte) (rest : List InFrame),
    (∀ (r : LimiterRequest) (c : LimiterSettings),
      s.asked 0x48#8 tag fields rest → decodeAll readLimiter fields = some r → s.settings.limiter.Sound →
        c =
          { warnOn := r.warnOn.getD s.settings.limiter.warnOn
            limitOn := r.limitOn.getD s.settings.limiter.limitOn
            hyst := r.hyst.getD s.settings.limiter.hyst
            derate := r.derate.getD s.settings.limiter.derate
            pistonArea := r.pistonArea.getD s.settings.limiter.pistonArea
            rodArea := r.rodArea.getD s.settings.limiter.rodArea
            lever := r.lever.getD s.settings.limiter.lever } →
          (¬c.Sound → exec (.limiterConfig dt) s = .next (s.replied dt rest 0x48#8 tag .badField .none)) ∧
            (c.Sound →
              exec (.limiterConfig dt) s =
                .next
                  { s with
                    now := s.now + dt
                    settings := { s.settings with limiter := c }
                    clp := s.clp.answered rest 0x48#8 tag .done (.limiterConfig c s.mlm) })) ∧
      (∀ r : List (Option Nat),
        s.asked 0x49#8 tag fields rest → decodeAll readRated fields = some r →
          ((∃ x, some x ∈ r ∧ (x < 1000 ∨ 999999 < x)) →
            exec (.ratedWrite dt) s = .next (s.replied dt rest 0x49#8 tag .badField .none)) ∧
            ((∀ x, some x ∈ r → 1000 ≤ x ∧ x ≤ 999999) →
              r.length = 9 ∧
                ∃ v : Vector Nat 9,
                  (∀ (i : Fin 9) (x : Option Nat), r[i.val]? = some x → v[i] = x.getD s.settings.rated[i]) ∧
                    exec (.ratedWrite dt) s =
                      .next
                        { s with
                          now := s.now + dt
                          settings := { s.settings with rated := v }
                          clp := s.clp.answered rest 0x49#8 tag .done (.rated v s.mlm) })) ∧
      (∀ r : ChannelRequest,
        s.asked 0x58#8 tag fields rest → decodeAll readChannel fields = some r →
          (8 < r.channel → exec (.channelCalibration dt) s = .next (s.replied dt rest 0x58#8 tag .badField .none)) ∧
            ∀ n : Fin 9,
              r.channel = n.val →
                (r.cal = none →
                  exec (.channelCalibration dt) s =
                    .next
                      (s.replied dt rest 0x58#8 tag .done
                        (.channel n s.settings.cal[n] s.ssu.record.channels[n]))) ∧
                  ∀ (c : ChannelCal) (good : Prop),
                    r.cal = some c →
                      (good ↔
                        c.rawLo < c.rawHi ∧ c.rawHi ≤ 4095 ∧ channelMin n ≤ c.valLo ∧ c.valLo ≤ channelMax n ∧
                          channelMin n ≤ c.valHi ∧ c.valHi ≤ channelMax n) →
                        (¬good →
                          exec (.channelCalibration dt) s =
                            .next (s.replied dt rest 0x58#8 tag .badField .none)) ∧
                          (good →
                            exec (.channelCalibration dt) s =
                              .next
                                { s with
                                  now := s.now + dt
                                  settings := { s.settings with cal := s.settings.cal.set n c }
                                  clp :=
                                    s.clp.answered rest 0x58#8 tag .done
                                      (.channel n c s.ssu.record.channels[n]) })) ∧
      ∀ (r : GeometryRequest) (g : Geometry) (bad : Prop),
        s.asked 0x59#8 tag fields rest → decodeAll readGeometry fields = some r →
          g =
            { pillar := r.pillar.getD s.settings.geometry.pillar
              mainLen := r.mainLen.getD s.settings.geometry.mainLen
              outerLen := r.outerLen.getD s.settings.geometry.outerLen } →
            (bad ↔
              (∃ x ∈ r.pillar, 1000 < x) ∨ (∃ x ∈ r.mainLen, x < 1000 ∨ 8000 < x) ∨
                ∃ x ∈ r.outerLen, x < 1000 ∨ 8000 < x) →
              (bad → exec (.geometryConfig dt) s = .next (s.replied dt rest 0x59#8 tag .badField .none)) ∧
                (¬bad →
                  exec (.geometryConfig dt) s =
                    .next
                      { s with
                        now := s.now + dt
                        settings := { s.settings with geometry := g }
                        clp :=
                          s.clp.answered rest 0x59#8 tag .done
                            (.geometry g s.ssu.record.reach s.ssu.record.tipValid) })

/-! ### Requests of the weigh link -/

/-- LINK_STATUS, LINK_RESET, CALIBRATE and TARE. Link status answers the link as it stands. Link reset is NoLink without a
head; otherwise the switch opens, what was held of the head is cleared, a tare and a capture end by the link, and POWERING
begins with the off time. Calibrate is BadField out of range, Busy for a trim while a capture or tare runs, and otherwise
replaces what it carries. Tare is Busy, NoLink or Busy in that order, and otherwise starts from zero. The record is valid,
and its trim in force, as R36 says (R36 to R39, R43, R61; auto power alone during a tare: log entry 42; the failure count
kept: log entry 28; the tare's end before the capture's: log entry 32; the lines released, in the model's own field: log
entry 41). -/
def Obligations.LinkRequestsAct : Prop :=
  ∀ (s : State) (dt : Nat) (tag : Byte) (fields : List Byte) (rest : List InFrame),
    (s.asked 0x50#8 tag [] rest →
      ∃ p : LinkStatusReply,
        exec (.linkStatus dt) s = .next (s.replied dt rest 0x50#8 tag .done (.linkStatus p)) ∧
          p.state = s.wlc.state ∧ p.cause = s.wlc.cause ∧ p.detect = s.wlc.detect ∧ p.supply = s.wlc.supply ∧
          p.autoPower = s.settings.autoPower ∧ p.identity = s.wlc.identity ∧ p.calRecord = s.settings.calRecord ∧
          p.valid = s.calValid ∧ p.trimInForce = s.trimInForce ∧
          (s.calValid = true ↔
            ∃ h, s.wlc.identity = some h ∧ s.settings.calRecord.bound = some h.serial ∧
              s.settings.calRecord.tareDone = true) ∧
          ((∃ h, s.wlc.identity = some h ∧ s.settings.calRecord.bound = some h.serial) →
            s.trimInForce = s.settings.calRecord.trim) ∧
          ((¬∃ h, s.wlc.identity = some h ∧ s.settings.calRecord.bound = some h.serial) → s.trimInForce = 1000) ∧
          p.tare = s.wlc.tare.state ∧ p.accepted = s.wlc.tare.accepted ∧ p.rejected = s.wlc.tare.rejected ∧
          p.failures = s.wlc.failures ∧ p.historyCount = s.wlc.history.length ∧ p.latest = s.wlc.latest ∧
          p.ringCount = s.wlc.ring.length) ∧
      (s.asked 0x51#8 tag [] rest →
        (s.wlc.state = .absent → s.wlc.detect = false →
          exec (.linkReset dt) s = .next (s.replied dt rest 0x51#8 tag .noLink .none)) ∧
          ((s.wlc.state ≠ .absent ∨ s.wlc.detect = true) →
            ∃ u : State,
              u =
                { s with
                  now := s.now + dt
                  wlc :=
                    { s.wlc with
                      state := .powering
                      cause := .none
                      supply := false
                      identity := none
                      latest := none
                      ring := []
                      history := []
                      activity := .offTime (s.now + dt + 20)
                      sent := [.release] }
                  clp := s.clp.answered rest 0x51#8 tag .accepted .none } ∧
                exec (.linkReset dt) s = .next (linkLeft u))) ∧
      (∀ r : CalibrateRequest,
        s.asked 0x52#8 tag fields rest → decodeAll readCalibrate fields = some r →
          ((∃ x ∈ r.trim, x < 900 ∨ 1100 < x) →
            exec (.calibrate dt) s = .next (s.replied dt rest 0x52#8 tag .badField .none)) ∧
            ∀ busy : Prop,
              (∀ x ∈ r.trim, 900 ≤ x ∧ x ≤ 1100) →
                (busy ↔
                  r.trim ≠ none ∧
                    (s.wce.state = .collecting ∨ s.wce.state = .suspended ∨ s.wlc.tare.state = .running)) →
                  (busy → exec (.calibrate dt) s = .next (s.replied dt rest 0x52#8 tag .busy .none)) ∧
                    (¬busy →
                      ∃ c : CalRecord,
                        c = { s.settings.calRecord with trim := r.trim.getD s.settings.calRecord.trim } ∧
                          exec (.calibrate dt) s =
                            .next
                              { s with
                                now := s.now + dt
                                settings :=
                                  { s.settings with
                                    calRecord := c
                                    autoPower := r.autoPower.getD s.settings.autoPower }
                                clp :=
                                  s.clp.answered rest 0x52#8 tag .done
                                    (.calibrate c s.calValid (r.autoPower.getD s.settings.autoPower)) })) ∧
      (s.asked 0x53#8 tag [] rest →
        (s.wlc.tare.state = .running →
          exec (.tare dt) s = .next (s.replied dt rest 0x53#8 tag .busy .none)) ∧
          (s.wlc.tare.state ≠ .running → s.wlc.state ≠ .running →
            exec (.tare dt) s = .next (s.replied dt rest 0x53#8 tag .noLink .none)) ∧
          (s.wlc.tare.state ≠ .running → s.wlc.state = .running → s.wce.state ≠ .idle →
            exec (.tare dt) s = .next (s.replied dt rest 0x53#8 tag .busy .none)) ∧
          (s.wlc.tare.state ≠ .running → s.wlc.state = .running → s.wce.state = .idle →
            exec (.tare dt) s =
              .next
                { s with
                  now := s.now + dt
                  wlc := { s.wlc with tare := { state := .running, accepted := 0, rejected := 0, sum := 0 } }
                  clp := s.clp.answered rest 0x53#8 tag .accepted .none })) ∧
      (s.wlc.tare.state ≠ .running → s.wce.state ≠ .collecting → s.wce.state ≠ .suspended → linkLeft s = s) ∧
      (s.wlc.tare.state = .running → s.wce.state ≠ .collecting → s.wce.state ≠ .suspended →
        linkLeft s =
          latch .tareEnded { s with wlc := { s.wlc with tare := { s.wlc.tare with state := .failed .link } } }) ∧
      (s.wlc.tare.state ≠ .running → (s.wce.state = .collecting ∨ s.wce.state = .suspended) →
        linkLeft s = endCapture (.unweighed .link) false s)

/-! ### Settings store, supplies and restart -/

/-- STORE_SETTINGS, STORE_WRITE_COMPLETION, RESTART_REQUEST and the supplies' commands. Store settings is Busy while a
write runs; otherwise it takes the snapshot, erases the target's check and writes with the number after the current
image's. At its instant the write ends DONE, good and current, or FAILED. A Restart request is answered Done and made
pending. The loss of the main supply abandons a write, DONE and FAILED being held; retained memory is lost when both
supplies are absent (R194 to R197, R199; before the instant, or with no write, only time passes: log entry 2). That the loss
of a supply leaves every other field as it stood, coils, switches and all outputs among them, is the model's reading of a
part that has no supply, marked DEDUCED and unsafe (log entry 7), and no rule of chapter 10. -/
def Obligations.StoreAndSuppliesAct : Prop :=
  ∀ (s : State) (dt : Nat) (tag : Byte) (rest : List InFrame),
    (s.asked 0x60#8 tag [] rest →
      (∀ w : StoreWrite, s.ssr.store = .writing → s.ssr.write = some w →
        exec (.storeSettings dt) s =
          .next (s.replied dt rest 0x60#8 tag .busy (.store .writing w.target w.sequence))) ∧
        (s.ssr.store ≠ .writing →
          ∃ (target : Fin 2) (sequence : Nat),
            target = (if s.ssr.current = some 0 then 1 else 0) ∧
              (s.ssr.current = none → sequence = 1) ∧
              (∀ (i : Fin 2) (m : StoredImage), s.ssr.current = some i → s.ssr.slots[i] = some m →
                sequence = (m.sequence + 1) % 65536) ∧
              exec (.storeSettings dt) s =
                .next
                  { s with
                    now := s.now + dt
                    ssr :=
                      { s.ssr with
                        slots := s.ssr.slots.set target none
                        store := .writing
                        write :=
                          some
                            { image := s.settings
                              sequence := sequence
                              target := target
                              due := s.now + dt + 40 } }
                    clp := s.clp.answered rest 0x60#8 tag .accepted (.store .writing target sequence) })) ∧
      (∀ checkMatches : Bool, s.power.main = true →
        (∀ w : StoreWrite, s.ssr.write = some w → w.due ≤ s.now + dt →
          exec (.storeWriteCompletion dt checkMatches) s =
            .next
              { s with
                now := s.now + dt
                ssr :=
                  if checkMatches then
                    { s.ssr with
                      slots := s.ssr.slots.set w.target (some { image := w.image, sequence := w.sequence })
                      current := some w.target
                      store := .done
                      write := none }
                  else { s.ssr with store := .failed, write := none } }) ∧
          ((∀ w : StoreWrite, s.ssr.write = some w → s.now + dt < w.due) →
            exec (.storeWriteCompletion dt checkMatches) s = .next { s with now := s.now + dt })) ∧
      (∀ (kind : RestartKind) (code : Byte), code = (if kind = .warm then 0#8 else 1#8) →
        s.asked 0x61#8 tag [code] rest →
          exec (.restartRequest dt) s =
            .next
              { s with
                now := s.now + dt
                clp :=
                  { s.clp.answered rest 0x61#8 tag .done .none with
                    restart := some { kind := kind, replySent := false } } }) ∧
      exec (.mainSupplyLoss dt) s =
        .next
          { s with
            now := s.now + dt
            power := { s.power with main := false }
            ssr :=
              { s.ssr with
                retainedGood := s.ssr.retainedGood && s.power.standby
                store := if s.ssr.store = .writing then .idle else s.ssr.store
                write := none } } ∧
      exec (.standbySupplyLoss dt) s =
        .next
          { s with
            now := s.now + dt
            power := { s.power with standby := false }
            ssr := { s.ssr with retainedGood := s.ssr.retainedGood && s.power.main } } ∧
      exec (.standbySupplyReturn dt) s =
        .next { s with now := s.now + dt, power := { s.power with standby := true } }

/-- RESTART, at the application of the main supply or once the Restart reply has been sent: WARM when the retained check is
good and COLD was not asked, COLD otherwise; the current slot is decided afresh; WARM keeps settings, tally and pre-arm, COLD
loads the current image or the defaults and empties the tally; every block takes its restart values; SettingsDefaulted is
the first report when the settings were defaulted. In any other case only time passes (log entry 2), and the restart a sent
reply makes is a command of its own (log entry 21); a high detect line and the failed reads: log entries 20 and 28; the
link's lines, released, in the model's own field: log entry 41; the flag `disabled` and the section record: log entries 11
and 36; the bytes last sent stay: log entry 27 (R19, R44, R74, R98, R99, R115, R134, R155, R172, R174, R190, R191, R195,
R198, R200). -/
def Obligations.RestartSetsBlocks : Prop :=
  ∀ (s : State) (dt : Nat),
    ((s.power.main = true ∧ ∀ p, s.clp.restart = some p → p.replySent = false) →
      exec (.restart dt) s = .next { s with now := s.now + dt }) ∧
      ∀ asked : Option RestartKind,
        ((s.power.main = false ∧ asked = none) ∨
            (s.power.main = true ∧ ∃ k, s.clp.restart = some { kind := k, replySent := true } ∧ asked = some k)) →
          ∃ (t : State) (defaulted : Prop),
            exec (.restart dt) s = .next t ∧ t.now = s.now + dt ∧ t.pending = s.pending ∧
              t.power = { s.power with main := true } ∧
              (t.ssr.lastRestart = .warm ↔ s.ssr.retainedGood = true ∧ asked ≠ some .cold) ∧
              t.ssr.slots = s.ssr.slots ∧ t.ssr.store = .idle ∧ t.ssr.write = none ∧ t.ssr.retainedGood = true ∧
              t.ssr.current =
                (match s.ssr.slots[0], s.ssr.slots[1] with
                | some _, none => some 0
                | none, some _ => some 1
                | some a, some b => if b.sequence = (a.sequence + 1) % 65536 then some 1 else some 0
                | none, none => none) ∧
              (defaulted ↔ t.ssr.lastRestart = .cold ∧ t.ssr.current = none) ∧
              (t.ssr.lastRestart = .warm → t.settings = s.settings ∧ t.lt = s.lt ∧ t.wce.preArm = s.wce.preArm) ∧
              (t.ssr.lastRestart = .cold →
                (∀ (i : Fin 2) (m : StoredImage), t.ssr.current = some i → s.ssr.slots[i] = some m →
                  t.settings = m.image) ∧
                  (t.ssr.current = none → t.settings = Settings.defaults) ∧ t.lt = coldTrip ∧
                  t.wce.preArm = false) ∧
              (∀ n : Fin 9,
                t.ssu.channels[n] = { state := .good, value := 0, bad := 0, good := 0 } ∧
                  t.ssu.record.channels[n] = { state := .good, value := 0 }) ∧
              t.ssu.record =
                { channels := t.ssu.record.channels
                  slew := 0
                  reach :=
                    min 12000
                      (t.settings.geometry.pillar + t.settings.geometry.mainLen + t.settings.geometry.outerLen)
                  tipValid := true
                  artic := 0
                  tilt := 0
                  substituted := false } ∧
              t.wlc =
                { state := .absent, cause := .none, detectLine := s.wlc.detectLine, detect := false
                  debounceDue := if s.wlc.detectLine then some (s.now + dt + 200) else none
                  supply := false, activity := .none, sent := [.release], identity := none, failedReads := 0, failures := 0
                  history := [], nextPoll := 0, latest := none, ring := []
                  tare := { state := .none, accepted := 0, rejected := 0, sum := 0 } } ∧
              t.wce =
                { state := .idle, grip := 0, closureRun := none, openEdge := false, preArm := t.wce.preArm
                  origin := none, validityRead := false, remaining := 0, extLeft := 0, rejects := 0, accepted := 0
                  extUsed := 0, extended := false, window := [], suspendDue := none, held := none } ∧
              (∀ i : Fin 8, t.evm.zones[i] = { bounds := none, membership := .unknown, armed := false }) ∧
              t.evm.bunk = .unknown ∧ t.evm.intrusion = false ∧
              (t.evm.slewA = if ∃ i : Fin 8, t.settings.zones[i].enable = true ∧ t.settings.zones[i].kind = .stop then
                0 else 1000) ∧
              t.evm.slewB = t.evm.slewA ∧
              (∀ i : Fin 8, t.settings.zones[i].enable = true → t.settings.zones[i].kind = .slow →
                t.evm.slow ≤ t.settings.zones[i].slow) ∧
              (t.evm.slow = 1000 ∨
                ∃ i : Fin 8, t.settings.zones[i].enable = true ∧ t.settings.zones[i].kind = .slow ∧
                  t.evm.slow = t.settings.zones[i].slow) ∧
              t.mlm = { source := .none, figures := none, state := .limit .starting, factor := 0 } ∧
              (∀ i : Fin 6,
                t.dsh[i] =
                    { held := 0, expiryDue := none, expired := true, disabled := false, latch := true, t0 := 0
                      target := 0, output := 0, requested := .none, running := false
                      index := t.settings.sections[i].startIndex, divider := 0
                      record :=
                        { held := 0, expired := true, timeToExpiry := none, latch := true
                          mode := t.settings.sections[i].mode, t0 := 0, target := 0, output := 0, requested := .none
                          running := false, index := t.settings.sections[i].startIndex, divider := 0 } } ∧
                  t.cds.sections[i] =
                    { state := .blocked, output := 0, active := .none, setpoint := 0, measured := 0
                      dead := t.settings.sections[i].deadTime, opens := 0, fault := none }) ∧
              t.cds =
                { sections := t.cds.sections, supply := .locked, closed := false, lockCause := some .restart
                  settleDue := none, idleDue := none, settleLeft := none, idleLeft := none } ∧
              t.clp =
                { receiver := .hunting, inbound := [], outbound := t.clp.outbound, reportNumber := t.clp.reportNumber
                  discards := { length := 0, gap := 0, framing := 0, check := 0, full := 0 }
                  changeSet := t.clp.changeSet, restart := none, line := s.clp.line } ∧
              (defaulted →
                t.clp.changeSet = 0x8000#16 ∧ t.clp.reportNumber = 1 ∧
                  t.clp.outbound = [.report 0 (.change .settingsDefaulted 0x8000#16)]) ∧
              (¬defaulted → t.clp.changeSet = 0#16 ∧ t.clp.reportNumber = 0 ∧ t.clp.outbound = [])

/-! ### The scan -/

/-- SCAN, the sensors: every channel moves by the class of its sample and takes the calibrated value when its state accepts
it; the record carries the channels, the slew, the reach, the tip validity, the articulation and the tilt-along,
substituted while ROLL or PITCH is LOST; an entry to LOST latches ChannelLost. Nothing but the sensors, the evaluation, the
limiter and the latches of the scan is touched. The table has the selected entries of R8, and the signed cosine and sine
are read from it by quadrant (R1 to R3, R5 to R11, R13 to R15; a count past its limit: log entry 25; the latches' order:
log entry 12). -/
def Obligations.ScanMovesSensors : Prop :=
  [0, 100, 200, 300, 400, 450, 500, 600, 700, 800, 900].map cosEntry =
      [16384, 16135, 15396, 14189, 12551, 11585, 10531, 8192, 5604, 2845, 0] ∧
  (∀ (a : Int) (k : Nat),
    (k : Int) = a - 3600 * (a / 3600) →
      k < 3600 ∧ (k ≤ 900 → cosOf a = cosEntry k ∧ sinOf a = cosEntry (900 - k)) ∧
        (901 ≤ k → k ≤ 1800 → cosOf a = -cosEntry (1800 - k) ∧ sinOf a = cosEntry (k - 900)) ∧
        (1801 ≤ k → k ≤ 2700 → cosOf a = -cosEntry (k - 1800) ∧ sinOf a = -cosEntry (2700 - k)) ∧
        (2701 ≤ k → cosOf a = cosEntry (3600 - k) ∧ sinOf a = -cosEntry (k - 2700))) ∧
  ∀ (s : State) (dt : Nat) (raw : Vector Nat 9),
    s.power.main = true →
      ∃ (t : State) (lost : Fin 9 → Prop),
        exec (.scan dt raw) s = .next t ∧ (∀ n, lost n ↔ t.ssu.channels[n].state = .lost) ∧
          (∀ (n : Fin 9) (cal : ChannelCal) (v : Int),
            cal = s.settings.cal[n] →
              v =
                max (channelMin n)
                  (min (channelMax n)
                    (roundHalfAway
                      (cal.valLo * (cal.rawHi - cal.rawLo) + ((raw[n] : Int) - cal.rawLo) * (cal.valHi - cal.valLo))
                      (cal.rawHi - cal.rawLo))) →
                (80 ≤ raw[n] → raw[n] ≤ 4015 →
                  (s.ssu.channels[n].state = .good →
                    t.ssu.channels[n] = { s.ssu.channels[n] with value := v }) ∧
                    (s.ssu.channels[n].state = .hold →
                      t.ssu.channels[n] = { s.ssu.channels[n] with state := .good, value := v, bad := 0 }) ∧
                    (s.ssu.channels[n].state = .lost → s.ssu.channels[n].good < 9 →
                      t.ssu.channels[n] = { s.ssu.channels[n] with good := s.ssu.channels[n].good + 1 }) ∧
                    (s.ssu.channels[n].state = .lost → 9 ≤ s.ssu.channels[n].good →
                      t.ssu.channels[n] = { state := .good, value := v, bad := 0, good := 0 })) ∧
                  ((raw[n] < 80 ∨ 4015 < raw[n]) →
                    (s.ssu.channels[n].state = .good →
                      t.ssu.channels[n] = { s.ssu.channels[n] with state := .hold, bad := 1 }) ∧
                      (s.ssu.channels[n].state = .hold → s.ssu.channels[n].bad < 5 →
                        t.ssu.channels[n] = { s.ssu.channels[n] with bad := s.ssu.channels[n].bad + 1 }) ∧
                      (s.ssu.channels[n].state = .hold → 5 ≤ s.ssu.channels[n].bad →
                        t.ssu.channels[n] =
                          { s.ssu.channels[n] with
                            state := .lost, bad := s.ssu.channels[n].bad + 1, good := 0 }) ∧
                      (s.ssu.channels[n].state = .lost →
                        t.ssu.channels[n] = { s.ssu.channels[n] with good := 0 }))) ∧
          (∀ n : Fin 9,
            t.ssu.record.channels[n] = { state := t.ssu.channels[n].state, value := t.ssu.channels[n].value }) ∧
          t.ssu.record.slew = t.ssu.channels[(0 : Fin 9)].value ∧
          t.ssu.record.artic = t.ssu.channels[(6 : Fin 9)].value ∧
          (t.ssu.record.tipValid = true ↔ ¬lost 0 ∧ ¬lost 1 ∧ ¬lost 2 ∧ ¬lost 3) ∧
          (t.ssu.record.substituted = true ↔ lost 4 ∨ lost 5) ∧
          (t.ssu.record.reach : Int) =
            max 0
              (min 12000
                (s.settings.geometry.pillar +
                  roundHalfUp
                    (s.settings.geometry.mainLen * cosEntry t.ssu.channels[(1 : Fin 9)].value.natAbs) 16384 +
                  roundHalfUp
                    ((s.settings.geometry.outerLen + t.ssu.channels[(3 : Fin 9)].value) *
                      cosEntry t.ssu.channels[(2 : Fin 9)].value.natAbs)
                    16384)) ∧
          t.ssu.record.tilt =
            (if t.ssu.record.substituted then 200
            else
              roundHalfAway
                (t.ssu.channels[(5 : Fin 9)].value * cosOf t.ssu.record.slew +
                  t.ssu.channels[(4 : Fin 9)].value * sinOf t.ssu.record.slew)
                16384) ∧
          t =
            { s with
              now := s.now + dt
              ssu := t.ssu
              evm := t.evm
              mlm := t.mlm
              clp := (s.scanLatches t).clp }

/-- SCAN, the zones, on the record just published: the bounds by the chassis and the articulation; with a valid tip the
membership and armed flag of every zone, the bunk membership, the smallest slow factor and guard factors, and the intrusion
flag, whose rise latches ZoneIntrusion; with an invalid tip the worst the enabled zones allow, the flag held. The
latches are those of `ScanMovesSensors` (R101 to R108). -/
def Obligations.ScanEvaluatesZones : Prop :=
  ∀ (s : State) (dt : Nat) (raw : Vector Nat 9),
    s.power.main = true → s.settings.Sound →
      ∃ (t : State) (start stop : Fin 8 → Int) (inside : Fin 8 → Prop) (zone : Fin 8 → Zone),
        exec (.scan dt raw) s = .next t ∧
          (∀ i,
            zone i = s.settings.zones[i] ∧ t.evm.zones[i].bounds = some (start i, stop i) ∧
              ((zone i).chassis = .rear → start i = (zone i).slewStart ∧ stop i = (zone i).slewStop) ∧
              ((zone i).chassis = .front → t.ssu.channels[(6 : Fin 9)].state ≠ .lost →
                start i = max (-1900) (min 1900 ((zone i).slewStart + t.ssu.record.artic)) ∧
                  stop i = max (-1900) (min 1900 ((zone i).slewStop + t.ssu.record.artic))) ∧
              ((zone i).chassis = .front → t.ssu.channels[(6 : Fin 9)].state = .lost →
                start i = max (-1900) (min 1900 ((zone i).slewStart - 450)) ∧
                  stop i = max (-1900) (min 1900 ((zone i).slewStop + 450))) ∧
              (inside i ↔
                (zone i).slewStart ≤ (zone i).slewStop ∧ start i ≤ t.ssu.record.slew ∧ t.ssu.record.slew ≤ stop i ∧
                  (zone i).reachMin ≤ t.ssu.record.reach ∧ t.ssu.record.reach ≤ (zone i).reachMax)) ∧
          (t.ssu.record.tipValid = true →
            (∀ i,
              (t.evm.zones[i].membership = .inZone ↔ inside i) ∧ (t.evm.zones[i].membership = .outZone ↔ ¬inside i) ∧
                (t.evm.zones[i].armed = true ↔
                  (zone i).kind = .stop ∧ (zone i).reachMin ≤ t.ssu.record.reach ∧
                    t.ssu.record.reach ≤ (zone i).reachMax)) ∧
              (t.evm.bunk = .inside ↔ ∃ i, (zone i).enable = true ∧ (zone i).kind = .bunk ∧ inside i) ∧
              (t.evm.bunk = .outside ↔ ¬∃ i, (zone i).enable = true ∧ (zone i).kind = .bunk ∧ inside i) ∧
              (∀ i, (zone i).enable = true → (zone i).kind = .slow → inside i → t.evm.slow ≤ (zone i).slow) ∧
              ((∃ i, (zone i).enable = true ∧ (zone i).kind = .slow ∧ inside i ∧ t.evm.slow = (zone i).slow) ∨
                (t.evm.slow = 1000 ∧ ¬∃ i, (zone i).enable = true ∧ (zone i).kind = .slow ∧ inside i)) ∧
              (∀ (factorA factorB : Fin 8 → Nat → Prop),
                (∀ i f, factorA i f ↔
                  (zone i).enable = true ∧ t.evm.zones[i].armed = true ∧ ¬inside i ∧ t.ssu.record.slew < start i ∧
                    (f : Int) =
                      if ((zone i).guard : Int) ≤ start i - t.ssu.record.slew then 1000
                      else (start i - t.ssu.record.slew) * 1000 / (zone i).guard) →
                  (∀ i f, factorB i f ↔
                    (zone i).enable = true ∧ t.evm.zones[i].armed = true ∧ ¬inside i ∧ stop i < t.ssu.record.slew ∧
                      (f : Int) =
                        if ((zone i).guard : Int) ≤ t.ssu.record.slew - stop i then 1000
                        else (t.ssu.record.slew - stop i) * 1000 / (zone i).guard) →
                    (∀ i f, factorA i f → t.evm.slewA ≤ f) ∧ (∀ i f, factorB i f → t.evm.slewB ≤ f) ∧
                      ((∃ i, factorA i t.evm.slewA) ∨ (t.evm.slewA = 1000 ∧ ¬∃ i f, factorA i f)) ∧
                      ((∃ i, factorB i t.evm.slewB) ∨ (t.evm.slewB = 1000 ∧ ¬∃ i f, factorB i f))) ∧
              (t.evm.intrusion = true ↔ ∃ i, (zone i).enable = true ∧ (zone i).kind = .stop ∧ inside i)) ∧
          (t.ssu.record.tipValid = false →
            (∀ i : Fin 8, t.evm.zones[i].membership = .unknown ∧ t.evm.zones[i].armed = false) ∧ t.evm.bunk = .unknown ∧
              t.evm.intrusion = s.evm.intrusion ∧
              (∀ i, (zone i).enable = true → (zone i).kind = .slow → t.evm.slow ≤ (zone i).slow) ∧
              ((∃ i, (zone i).enable = true ∧ (zone i).kind = .slow ∧ t.evm.slow = (zone i).slow) ∨
                (t.evm.slow = 1000 ∧ ¬∃ i, (zone i).enable = true ∧ (zone i).kind = .slow)) ∧
              ((∃ i, (zone i).enable = true ∧ (zone i).kind = .stop) → t.evm.slewA = 0 ∧ t.evm.slewB = 0) ∧
              ((¬∃ i, (zone i).enable = true ∧ (zone i).kind = .stop) →
                t.evm.slewA = 1000 ∧ t.evm.slewB = 1000)) ∧
          t.clp = (s.scanLatches t).clp

/-- SCAN, the limiter, on the record just published and the latest sample and ring: the source; without a moment, LIMIT with
its cause; with one, the tip force and moment of the source, the tilt-along used, the interpolated rated moment, the
utilisation and the levels, the state moved by u, and the factor. Entries to WARN and to LIMIT latch their sources; the
latches are those of `ScanMovesSensors` (R117 to R129). -/
def Obligations.ScanMovesLimiter : Prop :=
  ∀ (s : State) (dt : Nat) (raw : Vector Nat 9),
    s.power.main = true →
      ∃ (t : State) (source : MomentSource) (c : LimiterSettings),
        exec (.scan dt raw) s = .next t ∧ c = s.settings.limiter ∧
          (source = .link ↔ ∃ x, s.wlc.latest = some x ∧ x.linkForce = true) ∧
          (source = .none ↔
            (¬∃ x, s.wlc.latest = some x ∧ x.linkForce = true) ∧
              (t.ssu.channels[(7 : Fin 9)].state = .lost ∨ t.ssu.channels[(8 : Fin 9)].state = .lost)) ∧
          (t.ssu.record.tipValid = false →
            t.mlm = { source := source, figures := none, state := .limit .noGeometry, factor := 0 }) ∧
          (t.ssu.record.tipValid = true → source = .none →
            t.mlm = { source := source, figures := none, state := .limit .noSource, factor := 0 }) ∧
          (t.ssu.record.tipValid = true → source ≠ .none →
            ∃ (f : MomentFigures) (tip force rated : Int) (i : Nat),
              t.mlm.source = source ∧ t.mlm.figures = some f ∧
                (source = .link →
                  tip = s.wlc.ring.sum / s.wlc.ring.length ∧ f.tip = some (tip, s.wlc.ring.length) ∧
                    (f.moment : Int) = max 0 (min 999999 (tip * t.ssu.record.reach / 1000))) ∧
                (source = .pressure →
                  f.tip = none ∧
                    force =
                      max 0
                        ((t.ssu.channels[(7 : Fin 9)].value * c.pistonArea -
                            t.ssu.channels[(8 : Fin 9)].value * c.rodArea) / 100) ∧
                    (f.moment : Int) = max 0 (min 999999 (force * c.lever / 1000))) ∧
                f.tilt = max (-200) (min 200 t.ssu.record.tilt) ∧
                (i : Int) = min 7 ((f.tilt + 200) / 50) ∧
                (∀ lo hi : Fin 9, lo.val = i → hi.val = i + 1 →
                  f.rated =
                    s.settings.rated[lo] +
                      Int.tdiv
                        (((s.settings.rated[hi] : Int) - s.settings.rated[lo]) * (f.tilt - (-200 + 50 * (i : Int))))
                        50) ∧
                rated = f.rated ∧ (f.u : Int) = max 0 (min 1999 ((f.moment : Int) * 1000 / rated)) ∧
                f.warnLevel = (c.warnOn : Int) - (if source = .pressure then (c.derate : Int) else 0) ∧
                f.limitLevel = (c.limitOn : Int) - (if source = .pressure then (c.derate : Int) else 0) ∧
                (s.mlm.state = .warn →
                  t.mlm.state =
                    if f.limitLevel ≤ f.u then .limit .moment
                    else if (f.u : Int) < f.warnLevel - c.hyst then .normal
                    else .warn) ∧
                (s.mlm.state = .limit .moment →
                  t.mlm.state = if (f.u : Int) < f.limitLevel - c.hyst then .warn else .limit .moment) ∧
                (s.mlm.state ≠ .warn → s.mlm.state ≠ .limit .moment →
                  t.mlm.state =
                    if f.limitLevel ≤ f.u then .limit .moment
                    else if f.warnLevel ≤ f.u then .warn
                    else .normal) ∧
                (t.mlm.state = .normal → t.mlm.factor = 1000) ∧
                (t.mlm.state = .limit .moment → t.mlm.factor = 0) ∧
                (t.mlm.state = .warn →
                  (t.mlm.factor : Int) =
                    max 0
                      (min 1000 ((f.limitLevel - f.u) * 1000 / (f.limitLevel - f.warnLevel))))) ∧
          t.clp = (s.scanLatches t).clp

/-! ### Events of the weigh link -/

/-- DETECT_LINE_CHANGE, DEBOUNCE_EXPIRY, POWER_OFF_TIME_EXPIRY, LINK_SETTLE_EXPIRY, IDENTITY_RETRY, POLL,
RECOVERY_LINE_READ and CLOCK_PULSE_END, each at its instant: the debounce of the detect line, the switch, the settle timer,
the next read and the next poll, and the line test of a recovery with its nine pulses, which ends in IDENTIFYING, after the
end marker where a pulse freed the data line, or FAILED. Before the instant, or in any other activity, only time passes
(R20 to R23, R25, R29, R33, R35; log entry 2; a pulse past the ninth: log entry 25; LinkFault and LinkRemoved before the
tare's and the capture's end: log entry 32; what is put on the lines, in the model's own field: log entry 41). -/
def Obligations.LinkTimersMoveLink : Prop :=
  ∀ (s : State) (dt : Nat) (now : Nat) (identifying : State) (failed : LinkCause → State),
    s.power.main = true → now = s.now + dt →
      identifying =
        { s with
          now := now
          wlc :=
            { s.wlc with
              state := .identifying, identity := none, failedReads := 0, activity := .reading now
              sent := [.identityRequest] } } →
        (∀ cause,
          failed cause =
            linkLeft
              (latch .linkFault
                { s with
                  now := now
                  wlc :=
                    { s.wlc with
                      state := .failed, cause := cause, supply := false, identity := none, activity := .none
                      sent := [.release], latest := none, ring := [] } })) →
          (∀ level : Bool,
            exec (.detectLineChange dt level) s =
              .next
                (if level = s.wlc.detectLine then { s with now := now }
                else
                  { s with
                    now := now
                    wlc :=
                      { s.wlc with
                        detectLine := level
                        debounceDue := if level = s.wlc.detect then none else some (now + 200) } })) ∧
            (∀ due : Nat, s.wlc.debounceDue = some due → due ≤ now →
              (s.wlc.detect = true →
                exec (.debounceExpiry dt) s =
                  .next
                    (linkLeft
                      (latch .linkRemoved
                        { s with
                          now := now
                          wlc :=
                            { s.wlc with
                              detect := false, debounceDue := none, state := .absent, cause := .none
                              supply := false, identity := none, failures := 0, history := []
                              activity := .none, sent := [.release], latest := none, ring := [] } }))) ∧
                (s.wlc.detect = false →
                  exec (.debounceExpiry dt) s =
                    .next
                      (latch .linkAttached
                        { s with
                          now := now
                          wlc :=
                            if s.wlc.state = .absent ∧ s.settings.autoPower = true then
                              { s.wlc with
                                detect := true, debounceDue := none, state := .powering, supply := true
                                activity := .settling (now + 50) }
                            else { s.wlc with detect := true, debounceDue := none } }))) ∧
            ((∀ due : Nat, s.wlc.debounceDue = some due → now < due) →
              exec (.debounceExpiry dt) s = .next { s with now := now }) ∧
            (∀ ends : Nat, s.wlc.activity = .offTime ends → ends ≤ now →
              exec (.powerOffTimeExpiry dt) s =
                .next
                  { s with
                    now := now
                    wlc := { s.wlc with supply := true, activity := .settling (now + 50) } }) ∧
            ((∀ ends : Nat, s.wlc.activity = .offTime ends → now < ends) →
              exec (.powerOffTimeExpiry dt) s = .next { s with now := now }) ∧
            (∀ ends : Nat, s.wlc.activity = .settling ends → ends ≤ now →
              exec (.linkSettleExpiry dt) s = .next identifying) ∧
            ((∀ ends : Nat, s.wlc.activity = .settling ends → now < ends) →
              exec (.linkSettleExpiry dt) s = .next { s with now := now }) ∧
            (∀ due : Nat, s.wlc.activity = .retryWait due → due ≤ now →
              exec (.identityRetry dt) s =
                .next
                  { s with now := now, wlc := { s.wlc with activity := .reading now, sent := [.identityRequest] } }) ∧
            ((∀ due : Nat, s.wlc.activity = .retryWait due → now < due) →
              exec (.identityRetry dt) s = .next { s with now := now }) ∧
            (∀ due : Nat, s.wlc.activity = .pollWait due → due ≤ now →
              exec (.poll dt) s =
                .next
                  { s with
                    now := now
                    wlc :=
                      { s.wlc with
                        activity := .polling s.wlc.nextPoll now, sent := [.sampleRequest]
                        nextPoll := (s.wlc.nextPoll + 1) % 65536 } }) ∧
            ((∀ due : Nat, s.wlc.activity = .pollWait due → now < due) →
              exec (.poll dt) s = .next { s with now := now }) ∧
            (∀ (due : Nat) (clock data : Bool), s.wlc.activity = .lineRelease due → due ≤ now →
              exec (.recoveryLineRead dt clock data) s =
                .next
                  (if clock = false then failed .stuckClock
                  else if data = true then identifying
                  else
                    { s with
                      now := now
                      wlc := { s.wlc with activity := .pulsing 1 (now + 1), sent := [.clockPulse] } })) ∧
            ((∀ due : Nat, s.wlc.activity = .lineRelease due → now < due) →
              ∀ clock data : Bool, exec (.recoveryLineRead dt clock data) s = .next { s with now := now }) ∧
            (∀ (pulse due : Nat) (data : Bool), s.wlc.activity = .pulsing pulse due → due ≤ now →
              exec (.clockPulseEnd dt data) s =
                .next
                  (if data = true then
                    { identifying with wlc := { identifying.wlc with sent := [.endMarker, .identityRequest] } }
                  else if 9 ≤ pulse then failed .stuckData
                  else
                    { s with
                      now := now
                      wlc := { s.wlc with activity := .pulsing (pulse + 1) (now + 1), sent := [.clockPulse] } })) ∧
            ((∀ pulse due : Nat, s.wlc.activity = .pulsing pulse due → now < due) →
              ∀ data : Bool, exec (.clockPulseEnd dt data) s = .next { s with now := now })

/-- IDENTITY_READ_END: a record with a good check, rating and K inside the 3 ms is valid: the head is held, a record bound to
another serial is unbound with CalMismatch, the link is RUNNING with its first poll made, and an ARMED engine tests its lift
trigger; any other end is a failed read, the next follows 10 ms after its start, and the third gives FAILED as NoIdentity.
Before the 3 ms without an answer, or in any other activity, only time passes (R24 to R26, R29, R53; log entries 2, 24 and
32; a count past the third read: log entry 25; what is put on the lines: log entry 41). -/
def Obligations.IdentityReadIdentifiesHead : Prop :=
  ∀ (s : State) (dt now : Nat) (answer : Option IdentityAnswer),
    s.power.main = true → now = s.now + dt →
      (∀ began : Nat, s.wlc.activity = .reading began →
        ∀ good : IdentityAnswer → Prop,
          (∀ a, good a ↔
            answer = some a ∧ now ≤ began + 3 ∧
              crc8 (bytesOf32 a.serial ++ bytesOf16 a.rating ++ bytesOf16 a.zero ++ bytesOf16 a.scale) = a.check ∧
              10000 ≤ a.rating.toNat ∧ a.rating.toNat ≤ 60000 ∧ 1 ≤ a.scale.toNat ∧ a.scale.toNat ≤ 16383) →
            (∀ a, good a →
              ∃ u v : State,
                u =
                  { s with
                    now := now
                    wlc :=
                      { s.wlc with
                        identity :=
                          some
                            { serial := a.serial.toNat, rating := a.rating.toNat, zero := a.zero.toNat
                              scale := a.scale.toNat }
                        state := .running
                        failures := 0
                        ring := []
                        activity := .polling s.wlc.nextPoll now
                        sent := [.sampleRequest]
                        nextPoll := (s.wlc.nextPoll + 1) % 65536 } } ∧
                  v =
                    (if s.settings.calRecord.bound = none ∨ s.settings.calRecord.bound = some a.serial.toNat then u
                    else
                      latch .calMismatch
                        { u with
                          settings :=
                            { s.settings with
                              calRecord := { s.settings.calRecord with bound := none, tareDone := false } } }) ∧
                  exec (.identityReadEnd dt answer) s =
                    .next (if s.wce.state = .armed then liftConditions v else v)) ∧
              ((¬∃ a, good a) → (answer = none → began + 3 ≤ now) →
                (s.wlc.failedReads < 2 →
                  exec (.identityReadEnd dt answer) s =
                    .next
                      { s with
                        now := now
                        wlc :=
                          { s.wlc with
                            failedReads := s.wlc.failedReads + 1, activity := .retryWait (began + 10) } }) ∧
                  (2 ≤ s.wlc.failedReads →
                    exec (.identityReadEnd dt answer) s =
                      .next
                        (linkLeft
                          (latch .linkFault
                            { s with
                              now := now
                              wlc :=
                                { s.wlc with
                                  failedReads := s.wlc.failedReads + 1, state := .failed, cause := .noIdentity
                                  supply := false, identity := none, activity := .none, sent := [.release]
                                  latest := none, ring := [] } })))) ∧
              (answer = none → now < began + 3 → exec (.identityReadEnd dt answer) s = .next { s with now := now })) ∧
        ((∀ began : Nat, s.wlc.activity ≠ .reading began) →
          exec (.identityReadEnd dt answer) s = .next { s with now := now })

/-- POLL_COMPLETION publishes one sample: GOOD with its force, status and mark, CORRUPT or MISSING; the failure count, the
ring and the link-force flag follow it, the next poll is due 10 ms after this one, the engine and a running tare take the
sample, and the third failure in a row then moves the link to RECOVERING, or to FAILED as Unstable when two entries to
RECOVERING lie less than 10 000 ms back. Before the 3 ms without an answer, or in any other activity, only time passes
(R27, R28, R30 to R34; log entries 2, 24 and 32; a count past the third failure: log entry 25; the lines released: log
entry 41). -/
def Obligations.PollCompletionPublishesSample : Prop :=
  (∀ (s : State) (dt : Nat) (answer : Option SampleAnswer),
    s.power.main = true → (∀ number began : Nat, s.wlc.activity ≠ .polling number began) →
      exec (.pollCompletion dt answer) s = .next { s with now := s.now + dt }) ∧
  ∀ (s : State) (dt now number began : Nat) (answer : Option SampleAnswer) (h : HeadIdentity),
    s.power.main = true → now = s.now + dt → s.wlc.activity = .polling number began → s.wlc.identity = some h →
      (answer = none → now < began + 3 → exec (.pollCompletion dt answer) s = .next { s with now := now }) ∧
        ∀ (arrived sound : SampleAnswer → Prop) (outcome : PollOutcome) (f : SampleAnswer → Int),
          (∀ a, arrived a ↔ answer = some a ∧ now ≤ began + 3) →
            (∀ a, sound a ↔
              crc8 (bytesOf16 a.count ++ bytesOf16 a.swing ++ [a.status]) = a.check ∧ a.swing.toNat ≤ 900 ∧
                a.status.toNat ≤ 3) →
              (∀ a, f a =
                roundHalfAway (((a.count.toNat : Int) - h.zero) * h.scale * s.trimInForce) 4096000) →
                (answer = none → began + 3 ≤ now) →
                  ((¬∃ a, arrived a) → outcome = .missing) → (∀ a, arrived a → ¬sound a → outcome = .corrupt) →
                    (∀ a, arrived a → sound a →
                      ∃ d : GoodSample,
                        outcome = .good d ∧ d.count = a.count.toNat ∧ d.swing = a.swing.toNat ∧
                          d.force = max (-5000) (min 40000 (f a)) ∧
                          (d.clamped = true ↔ f a < -5000 ∨ 40000 < f a) ∧
                          d.status =
                            (if a.status.toNat = 0 ∧ f a ≤ h.rating then .ok
                            else if a.status.toNat ≤ 1 then .overload
                            else if a.status.toNat = 2 then .swingFault
                            else .temp)) →
                      ∃ (x : Sample) (u taken : State),
                        x.poll = number ∧ x.outcome = outcome ∧
                          (x.forceUsable = true ↔ ∃ d, outcome = .good d ∧ d.status ≠ .swingFault) ∧
                          (x.linkForce = true ↔ x.forceUsable = true ∧ s.wlc.state = .running) ∧
                          u =
                            { s with
                              now := now
                              wlc :=
                                { s.wlc with
                                  activity := .pollWait (began + 10)
                                  failures := u.wlc.failures
                                  ring := u.wlc.ring
                                  latest := some x } } ∧
                          (∀ d, outcome = .good d → u.wlc.failures = 0) ∧
                          ((∀ d, outcome ≠ .good d) → u.wlc.failures = s.wlc.failures + 1) ∧
                          (∀ d, outcome = .good d → d.status ≠ .swingFault → s.wlc.ring.length ≤ 8 →
                            u.wlc.ring =
                              (if s.wlc.ring.length < 8 then s.wlc.ring else s.wlc.ring.tail) ++ [d.force]) ∧
                          ((∀ d, outcome = .good d → d.status = .swingFault) → u.wlc.ring = s.wlc.ring) ∧
                          taken = tareSample h outcome (engineSample x u) ∧
                          (u.wlc.failures < 3 → exec (.pollCompletion dt answer) s = .next taken) ∧
                          (3 ≤ u.wlc.failures →
                            (2 ≤ (s.wlc.history.filter fun e => decide (now - e < 10000)).length →
                              exec (.pollCompletion dt answer) s =
                                .next
                                  (linkLeft
                                    (latch .linkFault
                                      { taken with
                                        wlc :=
                                          { taken.wlc with
                                            state := .failed, cause := .unstable, supply := false, identity := none
                                            activity := .none, sent := [.release], latest := none, ring := [] } }))) ∧
                              ((s.wlc.history.filter fun e => decide (now - e < 10000)).length < 2 →
                                s.wlc.history.length ≤ 2 →
                                  exec (.pollCompletion dt answer) s =
                                    .next
                                      (linkLeft
                                        { taken with
                                          wlc :=
                                            { taken.wlc with
                                              state := .recovering
                                              history :=
                                                (if s.wlc.history.length < 2 then s.wlc.history
                                                else s.wlc.history.tail) ++ [now]
                                              activity := .lineRelease (now + 1)
                                              sent := [.release]
                                              latest := none
                                              ring := [] } })))

/-- The capture takes a sample while it is COLLECTING alone: accepted, with the OK status, the swing, the range and no
mark, it joins the window, counts against the budget, and at the end of the budget the window is judged: weighed, extended,
or ended Unsteady; rejected, it counts, and the reject limit ends the capture Unsteady. The weighed figures are the mean,
gross and net of the window, BelowTare when the tare is the greater. A capture's end, whatever its outcome, forms the
pending lift with the window's count and spread, the flags and the counts, empties the window, goes to HELD and raises the
Weigh Result (R56 to R59, R62 to R66; past a limit: log entry 25). -/
def Obligations.CaptureTakesSample : Prop :=
  (∀ (s : State) (outcome : CaptureOutcome) (below : Bool),
    ∃ p : PendingLift,
      p.grip = s.wce.grip ∧ p.outcome = outcome ∧ p.n = s.wce.window.length ∧
        (p.spread = none ↔ s.wce.window = []) ∧
        (∀ w : Nat, p.spread = some w →
          (∃ x ∈ s.wce.window, ∃ y ∈ s.wce.window, (w : Int) = x.force - y.force) ∧
            ∀ x ∈ s.wce.window, ∀ y ∈ s.wce.window, x.force - y.force ≤ w) ∧
        p.extended = s.wce.extended ∧ p.belowTare = below ∧ p.accepted = s.wce.accepted ∧
        p.rejects = s.wce.rejects ∧ p.extUsed = s.wce.extUsed ∧
        endCapture outcome below s =
          { s with
            wce := { s.wce with window := [], suspendDue := none, state := .held, held := some p }
            clp := s.clp.raise (.weighResult p) }) ∧
  ∀ (s : State) (x : Sample),
    (s.wce.state ≠ .collecting → engineSample x s = s) ∧
      (s.wce.state = .collecting →
        ((∀ d, x.outcome = .good d →
            ¬(d.status = .ok ∧ d.swing ≤ s.settings.capture.swingLimit ∧ 0 ≤ d.force ∧ d.force ≤ 40000 ∧
              d.clamped = false)) →
          ∃ u : State,
            u = { s with wce := { s.wce with rejects := s.wce.rejects + 1 } } ∧
              engineSample x s =
                if s.settings.capture.rejectLimit ≤ s.wce.rejects + 1 then endCapture (.unweighed .unsteady) false u
                else u) ∧
          ∀ d, x.outcome = .good d → d.status = .ok → d.swing ≤ s.settings.capture.swingLimit → 0 ≤ d.force →
            d.force ≤ 40000 → d.clamped = false → s.wce.window.length ≤ 32 →
              ∃ (u : State) (w : List WindowEntry) (spread : Nat),
                w =
                    (if s.wce.window.length < 32 then s.wce.window else s.wce.window.tail) ++
                      [{ poll := x.poll, force := d.force }] ∧
                  u =
                    { s with
                      wce :=
                        { s.wce with
                          window := w, remaining := s.wce.remaining - 1, accepted := s.wce.accepted + 1 } } ∧
                  (∃ a ∈ w, ∃ b ∈ w, (spread : Int) = a.force - b.force) ∧
                  (∀ a ∈ w, ∀ b ∈ w, a.force - b.force ≤ spread) ∧
                  (2 ≤ s.wce.remaining → engineSample x s = u) ∧
                  (s.wce.remaining ≤ 1 →
                    (s.settings.capture.spreadLimit < spread → s.wce.extLeft = 0 →
                      engineSample x s = endCapture (.unweighed .unsteady) false u) ∧
                      (s.settings.capture.spreadLimit < spread → 0 < s.wce.extLeft →
                        engineSample x s =
                          { u with
                            wce :=
                              { u.wce with
                                remaining := s.settings.capture.extensionSize
                                extLeft := s.wce.extLeft - 1
                                extUsed := s.wce.extUsed + 1
                                extended := true } }) ∧
                      (spread ≤ s.settings.capture.spreadLimit → (∀ a ∈ w, 0 ≤ a.force) →
                        ∃ m : WeighedMass,
                          (m.mean : Int) = (2 * (w.map WindowEntry.force).sum + w.length) / (2 * w.length) ∧
                            m.gross = (m.mean * 1000 + 4903) / 9807 ∧
                            m.tareUsed = s.settings.calRecord.tare ∧
                            (m.net : Int) = max 0 ((m.gross : Int) - m.tareUsed) ∧
                            engineSample x s =
                              endCapture (.weighed m) (decide (m.gross < m.tareUsed)) u)))

/-- A running tare takes each sample: accepted, with the OK status, the swing and a force at the stored trim within 0..40
000 N, it adds to the sum, and the 32nd ends the tare: OverRange above 2 000 kg, else DONE with the tare written and the
record bound to the head; rejected, it counts, and the 64th ends the tare Unsteady; each end latches TareEnded (R30, R40 to
R42; past a limit: log entry 25). -/
def Obligations.TareTakesSample : Prop :=
  ∀ (s : State) (h : HeadIdentity) (o : PollOutcome),
    (s.wlc.tare.state ≠ .running → tareSample h o s = s) ∧
      (s.wlc.tare.state = .running →
        ∀ good : GoodSample → Nat → Prop,
          (∀ d n, good d n ↔
            o = .good d ∧ d.status = .ok ∧ d.swing ≤ s.settings.capture.swingLimit ∧ n ≤ 40000 ∧
              (n : Int) =
                roundHalfAway (((d.count : Int) - h.zero) * h.scale * s.settings.calRecord.trim) 4096000) →
            ((¬∃ d n, good d n) →
              tareSample h o s =
                if s.wlc.tare.rejected < 63 then
                  { s with
                    wlc := { s.wlc with tare := { s.wlc.tare with rejected := s.wlc.tare.rejected + 1 } } }
                else
                  latch .tareEnded
                    { s with
                      wlc :=
                        { s.wlc with
                          tare :=
                            { s.wlc.tare with
                              rejected := s.wlc.tare.rejected + 1, state := .failed .unsteady } } }) ∧
              ∀ d n, good d n →
                ∃ (t : Tare) (kg : Nat),
                  t =
                      { s.wlc.tare with
                        accepted := s.wlc.tare.accepted + 1, sum := s.wlc.tare.sum + n } ∧
                    kg = ((2 * t.sum + 32) / 64 * 1000 + 4903) / 9807 ∧
                    (s.wlc.tare.accepted < 31 →
                      tareSample h o s = { s with wlc := { s.wlc with tare := t } }) ∧
                    (31 ≤ s.wlc.tare.accepted → 2000 < kg →
                      tareSample h o s =
                        latch .tareEnded
                          { s with wlc := { s.wlc with tare := { t with state := .failed .overRange } } }) ∧
                    (31 ≤ s.wlc.tare.accepted → kg ≤ 2000 →
                      tareSample h o s =
                        latch .tareEnded
                          { s with
                            settings :=
                              { s.settings with
                                calRecord :=
                                  { s.settings.calRecord with
                                    tare := kg, bound := some h.serial, tareDone := true } }
                            wlc := { s.wlc with tare := { t with state := .done kg } } }))
end

