-- ==== Sys2Proof/Laws/Arith.lean ====
section
/-! SUPPORT. Sys2Proof/Laws/Arith.lean: the bounds and the usual forms of the shared arithmetic. -/

namespace Sys2Proof.Machine

/-- A clamp is the maximum with its lower bound of the minimum with its upper bound. -/
theorem clampInt_eq (lo hi x : Int) (h : lo ≤ hi) : clampInt lo hi x = max lo (min hi x) := by
  unfold clampInt
  omega

theorem clampInt_mem (lo hi x : Int) (h : lo ≤ hi) : lo ≤ clampInt lo hi x ∧ clampInt lo hi x ≤ hi := by
  unfold clampInt
  omega

theorem signOf_eq (x : Int) : signOf x = x.sign := by
  unfold signOf
  rcases lt_trichotomy x 0 with h | h | h
  · rw [if_neg (by omega), if_pos h, Int.sign_eq_neg_one_of_neg h]
  · simp [h]
  · rw [if_pos h, Int.sign_eq_one_of_pos h]

@[simp] theorem inRange_iff (lo hi x : Nat) : inRange lo hi x = true ↔ lo ≤ x ∧ x ≤ hi := by simp [inRange]

@[simp] theorem inRangeInt_iff (lo hi x : Int) : inRangeInt lo hi x = true ↔ lo ≤ x ∧ x ≤ hi := by simp [inRangeInt]

@[simp] theorem optRange_iff (lo hi : Nat) (x : Option Nat) :
    optRange lo hi x = true ↔ ∀ n, x = some n → lo ≤ n ∧ n ≤ hi := by
  cases x <;> simp [optRange]

@[simp] theorem optRangeInt_iff (lo hi : Int) (x : Option Int) :
    optRangeInt lo hi x = true ↔ ∀ n, x = some n → lo ≤ n ∧ n ≤ hi := by
  cases x <;> simp [optRangeInt]

@[simp] theorem isDue_none (now : Nat) : isDue now none = false := rfl

@[simp] theorem isDue_some (now due : Nat) : isDue now (some due) = decide (due ≤ now) := rfl

/-- A ring that has room keeps all its entries; a full one loses the oldest. -/
theorem ringPush_eq {α : Type} (cap : Nat) (l : List α) (x : α) (h : 0 < cap) (hl : l.length ≤ cap) :
    ringPush cap l x = (if l.length < cap then l else l.tail) ++ [x] := by
  unfold ringPush
  split
  · rw [show l.length + 1 - cap = 0 by omega, List.drop_zero]
  · rw [show l.length + 1 - cap = 1 by omega]
    cases l with
    | nil => exact absurd h (by simp_all)
    | cons a t => simp

theorem ringPush_length {α : Type} (cap : Nat) (l : List α) (x : α) :
    (ringPush cap l x).length ≤ cap := by
  simp [ringPush]
  omega

theorem mem_ringPush {α : Type} {cap : Nat} {l : List α} {x y : α} (h : y ∈ ringPush cap l x) : y ∈ l ∨ y = x := by
  have := List.mem_of_mem_drop h
  simpa using this

theorem foldl_min_le (l : List Nat) (a : Nat) : l.foldl min a ≤ a ∧ ∀ x ∈ l, l.foldl min a ≤ x := by
  induction l generalizing a with
  | nil => simp
  | cons b t ih =>
    obtain ⟨h1, h2⟩ := ih (min a b)
    simp only [List.foldl_cons, List.mem_cons, forall_eq_or_imp]
    exact ⟨by omega, by omega, h2⟩

theorem foldl_min_mem (l : List Nat) (a : Nat) : l.foldl min a = a ∨ l.foldl min a ∈ l := by
  induction l generalizing a with
  | nil => simp
  | cons b t ih =>
    simp only [List.foldl_cons, List.mem_cons]
    rcases ih (min a b) with h | h
    · omega
    · exact .inr (.inr h)

/-- The smallest factor is at most 1 000‰ and every factor, and is 1 000‰ or one of them. -/
theorem minFactor_spec (l : List Nat) :
    minFactor l ≤ 1000 ∧ (∀ x ∈ l, minFactor l ≤ x) ∧ (minFactor l = 1000 ∨ minFactor l ∈ l) :=
  ⟨(foldl_min_le l 1000).1, (foldl_min_le l 1000).2, foldl_min_mem l 1000⟩

end Sys2Proof.Machine
end

