-- ==== Sys2Proof/Laws/State.lean ====
section
/-! SUPPORT. Sys2Proof/Laws/State.lean: what each named update of State does to each field, one lemma per field per update,
true by `rfl`. -/

namespace Sys2Proof.Machine

open Sys2Proof

variable (s : State)

/-! ### setNow -/

@[simp] theorem State.setNow_now (x : Nat) : (s.setNow x).now = x := rfl
@[simp] theorem State.setNow_power (x : Nat) : (s.setNow x).power = s.power := rfl
@[simp] theorem State.setNow_settings (x : Nat) : (s.setNow x).settings = s.settings := rfl
@[simp] theorem State.setNow_ssu (x : Nat) : (s.setNow x).ssu = s.ssu := rfl
@[simp] theorem State.setNow_wlc (x : Nat) : (s.setNow x).wlc = s.wlc := rfl
@[simp] theorem State.setNow_wce (x : Nat) : (s.setNow x).wce = s.wce := rfl
@[simp] theorem State.setNow_lt (x : Nat) : (s.setNow x).lt = s.lt := rfl
@[simp] theorem State.setNow_evm (x : Nat) : (s.setNow x).evm = s.evm := rfl
@[simp] theorem State.setNow_mlm (x : Nat) : (s.setNow x).mlm = s.mlm := rfl
@[simp] theorem State.setNow_dsh (x : Nat) : (s.setNow x).dsh = s.dsh := rfl
@[simp] theorem State.setNow_cds (x : Nat) : (s.setNow x).cds = s.cds := rfl
@[simp] theorem State.setNow_clp (x : Nat) : (s.setNow x).clp = s.clp := rfl
@[simp] theorem State.setNow_ssr (x : Nat) : (s.setNow x).ssr = s.ssr := rfl
@[simp] theorem State.setNow_pending (x : Nat) : (s.setNow x).pending = s.pending := rfl

/-! ### setPower -/

@[simp] theorem State.setPower_now (x : Power) : (s.setPower x).now = s.now := rfl
@[simp] theorem State.setPower_power (x : Power) : (s.setPower x).power = x := rfl
@[simp] theorem State.setPower_settings (x : Power) : (s.setPower x).settings = s.settings := rfl
@[simp] theorem State.setPower_ssu (x : Power) : (s.setPower x).ssu = s.ssu := rfl
@[simp] theorem State.setPower_wlc (x : Power) : (s.setPower x).wlc = s.wlc := rfl
@[simp] theorem State.setPower_wce (x : Power) : (s.setPower x).wce = s.wce := rfl
@[simp] theorem State.setPower_lt (x : Power) : (s.setPower x).lt = s.lt := rfl
@[simp] theorem State.setPower_evm (x : Power) : (s.setPower x).evm = s.evm := rfl
@[simp] theorem State.setPower_mlm (x : Power) : (s.setPower x).mlm = s.mlm := rfl
@[simp] theorem State.setPower_dsh (x : Power) : (s.setPower x).dsh = s.dsh := rfl
@[simp] theorem State.setPower_cds (x : Power) : (s.setPower x).cds = s.cds := rfl
@[simp] theorem State.setPower_clp (x : Power) : (s.setPower x).clp = s.clp := rfl
@[simp] theorem State.setPower_ssr (x : Power) : (s.setPower x).ssr = s.ssr := rfl
@[simp] theorem State.setPower_pending (x : Power) : (s.setPower x).pending = s.pending := rfl

/-! ### setSettings -/

@[simp] theorem State.setSettings_now (x : Settings) : (s.setSettings x).now = s.now := rfl
@[simp] theorem State.setSettings_power (x : Settings) : (s.setSettings x).power = s.power := rfl
@[simp] theorem State.setSettings_settings (x : Settings) : (s.setSettings x).settings = x := rfl
@[simp] theorem State.setSettings_ssu (x : Settings) : (s.setSettings x).ssu = s.ssu := rfl
@[simp] theorem State.setSettings_wlc (x : Settings) : (s.setSettings x).wlc = s.wlc := rfl
@[simp] theorem State.setSettings_wce (x : Settings) : (s.setSettings x).wce = s.wce := rfl
@[simp] theorem State.setSettings_lt (x : Settings) : (s.setSettings x).lt = s.lt := rfl
@[simp] theorem State.setSettings_evm (x : Settings) : (s.setSettings x).evm = s.evm := rfl
@[simp] theorem State.setSettings_mlm (x : Settings) : (s.setSettings x).mlm = s.mlm := rfl
@[simp] theorem State.setSettings_dsh (x : Settings) : (s.setSettings x).dsh = s.dsh := rfl
@[simp] theorem State.setSettings_cds (x : Settings) : (s.setSettings x).cds = s.cds := rfl
@[simp] theorem State.setSettings_clp (x : Settings) : (s.setSettings x).clp = s.clp := rfl
@[simp] theorem State.setSettings_ssr (x : Settings) : (s.setSettings x).ssr = s.ssr := rfl
@[simp] theorem State.setSettings_pending (x : Settings) : (s.setSettings x).pending = s.pending := rfl

/-! ### setSsu -/

@[simp] theorem State.setSsu_now (x : Ssu) : (s.setSsu x).now = s.now := rfl
@[simp] theorem State.setSsu_power (x : Ssu) : (s.setSsu x).power = s.power := rfl
@[simp] theorem State.setSsu_settings (x : Ssu) : (s.setSsu x).settings = s.settings := rfl
@[simp] theorem State.setSsu_ssu (x : Ssu) : (s.setSsu x).ssu = x := rfl
@[simp] theorem State.setSsu_wlc (x : Ssu) : (s.setSsu x).wlc = s.wlc := rfl
@[simp] theorem State.setSsu_wce (x : Ssu) : (s.setSsu x).wce = s.wce := rfl
@[simp] theorem State.setSsu_lt (x : Ssu) : (s.setSsu x).lt = s.lt := rfl
@[simp] theorem State.setSsu_evm (x : Ssu) : (s.setSsu x).evm = s.evm := rfl
@[simp] theorem State.setSsu_mlm (x : Ssu) : (s.setSsu x).mlm = s.mlm := rfl
@[simp] theorem State.setSsu_dsh (x : Ssu) : (s.setSsu x).dsh = s.dsh := rfl
@[simp] theorem State.setSsu_cds (x : Ssu) : (s.setSsu x).cds = s.cds := rfl
@[simp] theorem State.setSsu_clp (x : Ssu) : (s.setSsu x).clp = s.clp := rfl
@[simp] theorem State.setSsu_ssr (x : Ssu) : (s.setSsu x).ssr = s.ssr := rfl
@[simp] theorem State.setSsu_pending (x : Ssu) : (s.setSsu x).pending = s.pending := rfl

/-! ### setWlc -/

@[simp] theorem State.setWlc_now (x : Wlc) : (s.setWlc x).now = s.now := rfl
@[simp] theorem State.setWlc_power (x : Wlc) : (s.setWlc x).power = s.power := rfl
@[simp] theorem State.setWlc_settings (x : Wlc) : (s.setWlc x).settings = s.settings := rfl
@[simp] theorem State.setWlc_ssu (x : Wlc) : (s.setWlc x).ssu = s.ssu := rfl
@[simp] theorem State.setWlc_wlc (x : Wlc) : (s.setWlc x).wlc = x := rfl
@[simp] theorem State.setWlc_wce (x : Wlc) : (s.setWlc x).wce = s.wce := rfl
@[simp] theorem State.setWlc_lt (x : Wlc) : (s.setWlc x).lt = s.lt := rfl
@[simp] theorem State.setWlc_evm (x : Wlc) : (s.setWlc x).evm = s.evm := rfl
@[simp] theorem State.setWlc_mlm (x : Wlc) : (s.setWlc x).mlm = s.mlm := rfl
@[simp] theorem State.setWlc_dsh (x : Wlc) : (s.setWlc x).dsh = s.dsh := rfl
@[simp] theorem State.setWlc_cds (x : Wlc) : (s.setWlc x).cds = s.cds := rfl
@[simp] theorem State.setWlc_clp (x : Wlc) : (s.setWlc x).clp = s.clp := rfl
@[simp] theorem State.setWlc_ssr (x : Wlc) : (s.setWlc x).ssr = s.ssr := rfl
@[simp] theorem State.setWlc_pending (x : Wlc) : (s.setWlc x).pending = s.pending := rfl

/-! ### setWce -/

@[simp] theorem State.setWce_now (x : Wce) : (s.setWce x).now = s.now := rfl
@[simp] theorem State.setWce_power (x : Wce) : (s.setWce x).power = s.power := rfl
@[simp] theorem State.setWce_settings (x : Wce) : (s.setWce x).settings = s.settings := rfl
@[simp] theorem State.setWce_ssu (x : Wce) : (s.setWce x).ssu = s.ssu := rfl
@[simp] theorem State.setWce_wlc (x : Wce) : (s.setWce x).wlc = s.wlc := rfl
@[simp] theorem State.setWce_wce (x : Wce) : (s.setWce x).wce = x := rfl
@[simp] theorem State.setWce_lt (x : Wce) : (s.setWce x).lt = s.lt := rfl
@[simp] theorem State.setWce_evm (x : Wce) : (s.setWce x).evm = s.evm := rfl
@[simp] theorem State.setWce_mlm (x : Wce) : (s.setWce x).mlm = s.mlm := rfl
@[simp] theorem State.setWce_dsh (x : Wce) : (s.setWce x).dsh = s.dsh := rfl
@[simp] theorem State.setWce_cds (x : Wce) : (s.setWce x).cds = s.cds := rfl
@[simp] theorem State.setWce_clp (x : Wce) : (s.setWce x).clp = s.clp := rfl
@[simp] theorem State.setWce_ssr (x : Wce) : (s.setWce x).ssr = s.ssr := rfl
@[simp] theorem State.setWce_pending (x : Wce) : (s.setWce x).pending = s.pending := rfl

/-! ### setLt -/

@[simp] theorem State.setLt_now (x : Trip) : (s.setLt x).now = s.now := rfl
@[simp] theorem State.setLt_power (x : Trip) : (s.setLt x).power = s.power := rfl
@[simp] theorem State.setLt_settings (x : Trip) : (s.setLt x).settings = s.settings := rfl
@[simp] theorem State.setLt_ssu (x : Trip) : (s.setLt x).ssu = s.ssu := rfl
@[simp] theorem State.setLt_wlc (x : Trip) : (s.setLt x).wlc = s.wlc := rfl
@[simp] theorem State.setLt_wce (x : Trip) : (s.setLt x).wce = s.wce := rfl
@[simp] theorem State.setLt_lt (x : Trip) : (s.setLt x).lt = x := rfl
@[simp] theorem State.setLt_evm (x : Trip) : (s.setLt x).evm = s.evm := rfl
@[simp] theorem State.setLt_mlm (x : Trip) : (s.setLt x).mlm = s.mlm := rfl
@[simp] theorem State.setLt_dsh (x : Trip) : (s.setLt x).dsh = s.dsh := rfl
@[simp] theorem State.setLt_cds (x : Trip) : (s.setLt x).cds = s.cds := rfl
@[simp] theorem State.setLt_clp (x : Trip) : (s.setLt x).clp = s.clp := rfl
@[simp] theorem State.setLt_ssr (x : Trip) : (s.setLt x).ssr = s.ssr := rfl
@[simp] theorem State.setLt_pending (x : Trip) : (s.setLt x).pending = s.pending := rfl

/-! ### setEvm -/

@[simp] theorem State.setEvm_now (x : EvalRecord) : (s.setEvm x).now = s.now := rfl
@[simp] theorem State.setEvm_power (x : EvalRecord) : (s.setEvm x).power = s.power := rfl
@[simp] theorem State.setEvm_settings (x : EvalRecord) : (s.setEvm x).settings = s.settings := rfl
@[simp] theorem State.setEvm_ssu (x : EvalRecord) : (s.setEvm x).ssu = s.ssu := rfl
@[simp] theorem State.setEvm_wlc (x : EvalRecord) : (s.setEvm x).wlc = s.wlc := rfl
@[simp] theorem State.setEvm_wce (x : EvalRecord) : (s.setEvm x).wce = s.wce := rfl
@[simp] theorem State.setEvm_lt (x : EvalRecord) : (s.setEvm x).lt = s.lt := rfl
@[simp] theorem State.setEvm_evm (x : EvalRecord) : (s.setEvm x).evm = x := rfl
@[simp] theorem State.setEvm_mlm (x : EvalRecord) : (s.setEvm x).mlm = s.mlm := rfl
@[simp] theorem State.setEvm_dsh (x : EvalRecord) : (s.setEvm x).dsh = s.dsh := rfl
@[simp] theorem State.setEvm_cds (x : EvalRecord) : (s.setEvm x).cds = s.cds := rfl
@[simp] theorem State.setEvm_clp (x : EvalRecord) : (s.setEvm x).clp = s.clp := rfl
@[simp] theorem State.setEvm_ssr (x : EvalRecord) : (s.setEvm x).ssr = s.ssr := rfl
@[simp] theorem State.setEvm_pending (x : EvalRecord) : (s.setEvm x).pending = s.pending := rfl

/-! ### setMlm -/

@[simp] theorem State.setMlm_now (x : LimiterRecord) : (s.setMlm x).now = s.now := rfl
@[simp] theorem State.setMlm_power (x : LimiterRecord) : (s.setMlm x).power = s.power := rfl
@[simp] theorem State.setMlm_settings (x : LimiterRecord) : (s.setMlm x).settings = s.settings := rfl
@[simp] theorem State.setMlm_ssu (x : LimiterRecord) : (s.setMlm x).ssu = s.ssu := rfl
@[simp] theorem State.setMlm_wlc (x : LimiterRecord) : (s.setMlm x).wlc = s.wlc := rfl
@[simp] theorem State.setMlm_wce (x : LimiterRecord) : (s.setMlm x).wce = s.wce := rfl
@[simp] theorem State.setMlm_lt (x : LimiterRecord) : (s.setMlm x).lt = s.lt := rfl
@[simp] theorem State.setMlm_evm (x : LimiterRecord) : (s.setMlm x).evm = s.evm := rfl
@[simp] theorem State.setMlm_mlm (x : LimiterRecord) : (s.setMlm x).mlm = x := rfl
@[simp] theorem State.setMlm_dsh (x : LimiterRecord) : (s.setMlm x).dsh = s.dsh := rfl
@[simp] theorem State.setMlm_cds (x : LimiterRecord) : (s.setMlm x).cds = s.cds := rfl
@[simp] theorem State.setMlm_clp (x : LimiterRecord) : (s.setMlm x).clp = s.clp := rfl
@[simp] theorem State.setMlm_ssr (x : LimiterRecord) : (s.setMlm x).ssr = s.ssr := rfl
@[simp] theorem State.setMlm_pending (x : LimiterRecord) : (s.setMlm x).pending = s.pending := rfl

/-! ### setDsh -/

@[simp] theorem State.setDsh_now (x : Vector DshSection 6) : (s.setDsh x).now = s.now := rfl
@[simp] theorem State.setDsh_power (x : Vector DshSection 6) : (s.setDsh x).power = s.power := rfl
@[simp] theorem State.setDsh_settings (x : Vector DshSection 6) : (s.setDsh x).settings = s.settings := rfl
@[simp] theorem State.setDsh_ssu (x : Vector DshSection 6) : (s.setDsh x).ssu = s.ssu := rfl
@[simp] theorem State.setDsh_wlc (x : Vector DshSection 6) : (s.setDsh x).wlc = s.wlc := rfl
@[simp] theorem State.setDsh_wce (x : Vector DshSection 6) : (s.setDsh x).wce = s.wce := rfl
@[simp] theorem State.setDsh_lt (x : Vector DshSection 6) : (s.setDsh x).lt = s.lt := rfl
@[simp] theorem State.setDsh_evm (x : Vector DshSection 6) : (s.setDsh x).evm = s.evm := rfl
@[simp] theorem State.setDsh_mlm (x : Vector DshSection 6) : (s.setDsh x).mlm = s.mlm := rfl
@[simp] theorem State.setDsh_dsh (x : Vector DshSection 6) : (s.setDsh x).dsh = x := rfl
@[simp] theorem State.setDsh_cds (x : Vector DshSection 6) : (s.setDsh x).cds = s.cds := rfl
@[simp] theorem State.setDsh_clp (x : Vector DshSection 6) : (s.setDsh x).clp = s.clp := rfl
@[simp] theorem State.setDsh_ssr (x : Vector DshSection 6) : (s.setDsh x).ssr = s.ssr := rfl
@[simp] theorem State.setDsh_pending (x : Vector DshSection 6) : (s.setDsh x).pending = s.pending := rfl

/-! ### setCds -/

@[simp] theorem State.setCds_now (x : Cds) : (s.setCds x).now = s.now := rfl
@[simp] theorem State.setCds_power (x : Cds) : (s.setCds x).power = s.power := rfl
@[simp] theorem State.setCds_settings (x : Cds) : (s.setCds x).settings = s.settings := rfl
@[simp] theorem State.setCds_ssu (x : Cds) : (s.setCds x).ssu = s.ssu := rfl
@[simp] theorem State.setCds_wlc (x : Cds) : (s.setCds x).wlc = s.wlc := rfl
@[simp] theorem State.setCds_wce (x : Cds) : (s.setCds x).wce = s.wce := rfl
@[simp] theorem State.setCds_lt (x : Cds) : (s.setCds x).lt = s.lt := rfl
@[simp] theorem State.setCds_evm (x : Cds) : (s.setCds x).evm = s.evm := rfl
@[simp] theorem State.setCds_mlm (x : Cds) : (s.setCds x).mlm = s.mlm := rfl
@[simp] theorem State.setCds_dsh (x : Cds) : (s.setCds x).dsh = s.dsh := rfl
@[simp] theorem State.setCds_cds (x : Cds) : (s.setCds x).cds = x := rfl
@[simp] theorem State.setCds_clp (x : Cds) : (s.setCds x).clp = s.clp := rfl
@[simp] theorem State.setCds_ssr (x : Cds) : (s.setCds x).ssr = s.ssr := rfl
@[simp] theorem State.setCds_pending (x : Cds) : (s.setCds x).pending = s.pending := rfl

/-! ### setClp -/

@[simp] theorem State.setClp_now (x : Clp) : (s.setClp x).now = s.now := rfl
@[simp] theorem State.setClp_power (x : Clp) : (s.setClp x).power = s.power := rfl
@[simp] theorem State.setClp_settings (x : Clp) : (s.setClp x).settings = s.settings := rfl
@[simp] theorem State.setClp_ssu (x : Clp) : (s.setClp x).ssu = s.ssu := rfl
@[simp] theorem State.setClp_wlc (x : Clp) : (s.setClp x).wlc = s.wlc := rfl
@[simp] theorem State.setClp_wce (x : Clp) : (s.setClp x).wce = s.wce := rfl
@[simp] theorem State.setClp_lt (x : Clp) : (s.setClp x).lt = s.lt := rfl
@[simp] theorem State.setClp_evm (x : Clp) : (s.setClp x).evm = s.evm := rfl
@[simp] theorem State.setClp_mlm (x : Clp) : (s.setClp x).mlm = s.mlm := rfl
@[simp] theorem State.setClp_dsh (x : Clp) : (s.setClp x).dsh = s.dsh := rfl
@[simp] theorem State.setClp_cds (x : Clp) : (s.setClp x).cds = s.cds := rfl
@[simp] theorem State.setClp_clp (x : Clp) : (s.setClp x).clp = x := rfl
@[simp] theorem State.setClp_ssr (x : Clp) : (s.setClp x).ssr = s.ssr := rfl
@[simp] theorem State.setClp_pending (x : Clp) : (s.setClp x).pending = s.pending := rfl

/-! ### setSsr -/

@[simp] theorem State.setSsr_now (x : Ssr) : (s.setSsr x).now = s.now := rfl
@[simp] theorem State.setSsr_power (x : Ssr) : (s.setSsr x).power = s.power := rfl
@[simp] theorem State.setSsr_settings (x : Ssr) : (s.setSsr x).settings = s.settings := rfl
@[simp] theorem State.setSsr_ssu (x : Ssr) : (s.setSsr x).ssu = s.ssu := rfl
@[simp] theorem State.setSsr_wlc (x : Ssr) : (s.setSsr x).wlc = s.wlc := rfl
@[simp] theorem State.setSsr_wce (x : Ssr) : (s.setSsr x).wce = s.wce := rfl
@[simp] theorem State.setSsr_lt (x : Ssr) : (s.setSsr x).lt = s.lt := rfl
@[simp] theorem State.setSsr_evm (x : Ssr) : (s.setSsr x).evm = s.evm := rfl
@[simp] theorem State.setSsr_mlm (x : Ssr) : (s.setSsr x).mlm = s.mlm := rfl
@[simp] theorem State.setSsr_dsh (x : Ssr) : (s.setSsr x).dsh = s.dsh := rfl
@[simp] theorem State.setSsr_cds (x : Ssr) : (s.setSsr x).cds = s.cds := rfl
@[simp] theorem State.setSsr_clp (x : Ssr) : (s.setSsr x).clp = s.clp := rfl
@[simp] theorem State.setSsr_ssr (x : Ssr) : (s.setSsr x).ssr = x := rfl
@[simp] theorem State.setSsr_pending (x : Ssr) : (s.setSsr x).pending = s.pending := rfl

/-! ### setPending -/

@[simp] theorem State.setPending_now (x : List Instr) : (s.setPending x).now = s.now := rfl
@[simp] theorem State.setPending_power (x : List Instr) : (s.setPending x).power = s.power := rfl
@[simp] theorem State.setPending_settings (x : List Instr) : (s.setPending x).settings = s.settings := rfl
@[simp] theorem State.setPending_ssu (x : List Instr) : (s.setPending x).ssu = s.ssu := rfl
@[simp] theorem State.setPending_wlc (x : List Instr) : (s.setPending x).wlc = s.wlc := rfl
@[simp] theorem State.setPending_wce (x : List Instr) : (s.setPending x).wce = s.wce := rfl
@[simp] theorem State.setPending_lt (x : List Instr) : (s.setPending x).lt = s.lt := rfl
@[simp] theorem State.setPending_evm (x : List Instr) : (s.setPending x).evm = s.evm := rfl
@[simp] theorem State.setPending_mlm (x : List Instr) : (s.setPending x).mlm = s.mlm := rfl
@[simp] theorem State.setPending_dsh (x : List Instr) : (s.setPending x).dsh = s.dsh := rfl
@[simp] theorem State.setPending_cds (x : List Instr) : (s.setPending x).cds = s.cds := rfl
@[simp] theorem State.setPending_clp (x : List Instr) : (s.setPending x).clp = s.clp := rfl
@[simp] theorem State.setPending_ssr (x : List Instr) : (s.setPending x).ssr = s.ssr := rfl
@[simp] theorem State.setPending_pending (x : List Instr) : (s.setPending x).pending = x := rfl

/-! ### tick -/

@[simp] theorem State.tick_now (dt : Nat) : (s.tick dt).now = s.now + dt := rfl
@[simp] theorem State.tick_power (dt : Nat) : (s.tick dt).power = s.power := rfl
@[simp] theorem State.tick_settings (dt : Nat) : (s.tick dt).settings = s.settings := rfl
@[simp] theorem State.tick_ssu (dt : Nat) : (s.tick dt).ssu = s.ssu := rfl
@[simp] theorem State.tick_wlc (dt : Nat) : (s.tick dt).wlc = s.wlc := rfl
@[simp] theorem State.tick_wce (dt : Nat) : (s.tick dt).wce = s.wce := rfl
@[simp] theorem State.tick_lt (dt : Nat) : (s.tick dt).lt = s.lt := rfl
@[simp] theorem State.tick_evm (dt : Nat) : (s.tick dt).evm = s.evm := rfl
@[simp] theorem State.tick_mlm (dt : Nat) : (s.tick dt).mlm = s.mlm := rfl
@[simp] theorem State.tick_dsh (dt : Nat) : (s.tick dt).dsh = s.dsh := rfl
@[simp] theorem State.tick_cds (dt : Nat) : (s.tick dt).cds = s.cds := rfl
@[simp] theorem State.tick_clp (dt : Nat) : (s.tick dt).clp = s.clp := rfl
@[simp] theorem State.tick_ssr (dt : Nat) : (s.tick dt).ssr = s.ssr := rfl
@[simp] theorem State.tick_pending (dt : Nat) : (s.tick dt).pending = s.pending := rfl

/-! ### publish: the coil record's times left (R172) -/

@[simp] theorem Cds.publish_sections (c : Cds) (now : Nat) : (c.publish now).sections = c.sections := rfl
@[simp] theorem Cds.publish_supply (c : Cds) (now : Nat) : (c.publish now).supply = c.supply := rfl
@[simp] theorem Cds.publish_closed (c : Cds) (now : Nat) : (c.publish now).closed = c.closed := rfl
@[simp] theorem Cds.publish_lockCause (c : Cds) (now : Nat) : (c.publish now).lockCause = c.lockCause := rfl
@[simp] theorem Cds.publish_settleDue (c : Cds) (now : Nat) : (c.publish now).settleDue = c.settleDue := rfl
@[simp] theorem Cds.publish_idleDue (c : Cds) (now : Nat) : (c.publish now).idleDue = c.idleDue := rfl
@[simp] theorem Cds.publish_settleLeft (c : Cds) (now : Nat) :
    (c.publish now).settleLeft = if c.supply = .waking then timeLeft now c.settleDue else none := rfl
@[simp] theorem Cds.publish_idleLeft (c : Cds) (now : Nat) :
    (c.publish now).idleLeft = if c.supply = .active then timeLeft now c.idleDue else none := rfl

/-! ### publishCds -/

@[simp] theorem State.publishCds_now (c : Cds) : (s.publishCds c).now = s.now := rfl
@[simp] theorem State.publishCds_power (c : Cds) : (s.publishCds c).power = s.power := rfl
@[simp] theorem State.publishCds_settings (c : Cds) : (s.publishCds c).settings = s.settings := rfl
@[simp] theorem State.publishCds_ssu (c : Cds) : (s.publishCds c).ssu = s.ssu := rfl
@[simp] theorem State.publishCds_wlc (c : Cds) : (s.publishCds c).wlc = s.wlc := rfl
@[simp] theorem State.publishCds_wce (c : Cds) : (s.publishCds c).wce = s.wce := rfl
@[simp] theorem State.publishCds_lt (c : Cds) : (s.publishCds c).lt = s.lt := rfl
@[simp] theorem State.publishCds_evm (c : Cds) : (s.publishCds c).evm = s.evm := rfl
@[simp] theorem State.publishCds_mlm (c : Cds) : (s.publishCds c).mlm = s.mlm := rfl
@[simp] theorem State.publishCds_dsh (c : Cds) : (s.publishCds c).dsh = s.dsh := rfl
@[simp] theorem State.publishCds_clp (c : Cds) : (s.publishCds c).clp = s.clp := rfl
@[simp] theorem State.publishCds_ssr (c : Cds) : (s.publishCds c).ssr = s.ssr := rfl
@[simp] theorem State.publishCds_pending (c : Cds) : (s.publishCds c).pending = s.pending := rfl
@[simp] theorem State.publishCds_cds (c : Cds) : (s.publishCds c).cds = c.publish s.now := rfl

end Sys2Proof.Machine
end

