-- ==== Sys2Proof/Laws/Flags.lean ====
section
/-! SUPPORT. Sys2Proof/Laws/Flags.lean: what a latch and a report change: the change set, the outbound queue and the report
number of the port, and nothing else. -/

namespace Sys2Proof.Machine

open Sys2Proof

variable (src : ChangeSource) (b : Bool) (r : Report) (s : State) (c : Clp)

/-! ### The port -/

@[simp] theorem Clp.raise_inbound : (c.raise r).inbound = c.inbound := rfl
@[simp] theorem Clp.raise_receiver : (c.raise r).receiver = c.receiver := rfl
@[simp] theorem Clp.raise_discards : (c.raise r).discards = c.discards := rfl
@[simp] theorem Clp.raise_changeSet : (c.raise r).changeSet = c.changeSet := rfl
@[simp] theorem Clp.raise_restart : (c.raise r).restart = c.restart := rfl
@[simp] theorem Clp.raise_line : (c.raise r).line = c.line := rfl
@[simp] theorem Clp.raise_reportNumber : (c.raise r).reportNumber = (c.reportNumber + 1) % 256 := rfl

/-- A report joins the end of a queue that has room and is dropped by a full one. -/
theorem Clp.raise_outbound : (c.raise r).outbound =
    if c.outbound.length < 8 then c.outbound ++ [.report c.reportNumber r] else c.outbound := rfl

@[simp] theorem Clp.gain_inbound : (c.gain src).inbound = c.inbound := rfl
@[simp] theorem Clp.gain_receiver : (c.gain src).receiver = c.receiver := rfl
@[simp] theorem Clp.gain_discards : (c.gain src).discards = c.discards := rfl
@[simp] theorem Clp.gain_restart : (c.gain src).restart = c.restart := rfl
@[simp] theorem Clp.gain_line : (c.gain src).line = c.line := rfl
@[simp] theorem Clp.gain_changeSet : (c.gain src).changeSet = c.changeSet ||| src.mask := rfl

/-- A report keeps every frame that waits, in its place. -/
theorem Clp.raise_prefix : ∃ more, (c.raise r).outbound = c.outbound ++ more := by
  rw [Clp.raise_outbound]
  split
  · exact ⟨_, rfl⟩
  · exact ⟨[], by simp⟩

/-! ### Latches -/

/-- What a latch does, whole. -/
theorem latch_eq : latch src s =
    if hasSource s.settings.enables src && !hasSource s.clp.changeSet src then s.setClp (s.clp.gain src) else s := rfl

/-- A latch changes the port alone. -/
theorem latch_frame : latch src s = s.setClp (latch src s).clp := by
  unfold latch
  split <;> rfl

@[simp] theorem latchIf_true : latchIf true src s = latch src s := rfl
@[simp] theorem latchIf_false : latchIf false src s = s := rfl

theorem latchIf_frame : latchIf b src s = s.setClp (latchIf b src s).clp := by
  cases b
  · rfl
  · exact latch_frame src s

@[simp] theorem latchIf_now : (latchIf b src s).now = s.now := by rw [latchIf_frame]; rfl
@[simp] theorem latchIf_power : (latchIf b src s).power = s.power := by rw [latchIf_frame]; rfl
@[simp] theorem latchIf_settings : (latchIf b src s).settings = s.settings := by rw [latchIf_frame]; rfl
@[simp] theorem latchIf_ssu : (latchIf b src s).ssu = s.ssu := by rw [latchIf_frame]; rfl
@[simp] theorem latchIf_wlc : (latchIf b src s).wlc = s.wlc := by rw [latchIf_frame]; rfl
@[simp] theorem latchIf_wce : (latchIf b src s).wce = s.wce := by rw [latchIf_frame]; rfl
@[simp] theorem latchIf_lt : (latchIf b src s).lt = s.lt := by rw [latchIf_frame]; rfl
@[simp] theorem latchIf_evm : (latchIf b src s).evm = s.evm := by rw [latchIf_frame]; rfl
@[simp] theorem latchIf_mlm : (latchIf b src s).mlm = s.mlm := by rw [latchIf_frame]; rfl
@[simp] theorem latchIf_dsh : (latchIf b src s).dsh = s.dsh := by rw [latchIf_frame]; rfl
@[simp] theorem latchIf_cds : (latchIf b src s).cds = s.cds := by rw [latchIf_frame]; rfl
@[simp] theorem latchIf_ssr : (latchIf b src s).ssr = s.ssr := by rw [latchIf_frame]; rfl
@[simp] theorem latchIf_pending : (latchIf b src s).pending = s.pending := by rw [latchIf_frame]; rfl

@[simp] theorem latch_now : (latch src s).now = s.now := latchIf_now src true s
@[simp] theorem latch_power : (latch src s).power = s.power := latchIf_power src true s
@[simp] theorem latch_settings : (latch src s).settings = s.settings := latchIf_settings src true s
@[simp] theorem latch_ssu : (latch src s).ssu = s.ssu := latchIf_ssu src true s
@[simp] theorem latch_wlc : (latch src s).wlc = s.wlc := latchIf_wlc src true s
@[simp] theorem latch_wce : (latch src s).wce = s.wce := latchIf_wce src true s
@[simp] theorem latch_lt : (latch src s).lt = s.lt := latchIf_lt src true s
@[simp] theorem latch_evm : (latch src s).evm = s.evm := latchIf_evm src true s
@[simp] theorem latch_mlm : (latch src s).mlm = s.mlm := latchIf_mlm src true s
@[simp] theorem latch_dsh : (latch src s).dsh = s.dsh := latchIf_dsh src true s
@[simp] theorem latch_cds : (latch src s).cds = s.cds := latchIf_cds src true s
@[simp] theorem latch_ssr : (latch src s).ssr = s.ssr := latchIf_ssr src true s
@[simp] theorem latch_pending : (latch src s).pending = s.pending := latchIf_pending src true s

/-- Of the port, a latch keeps the inbound queue, the receiver, the discards, the pending restart and the line. -/
theorem latch_clp : (latch src s).clp = { s.clp with
    outbound := (latch src s).clp.outbound
    reportNumber := (latch src s).clp.reportNumber
    changeSet := (latch src s).clp.changeSet } := by
  unfold latch
  split <;> rfl

theorem latchIf_clp : (latchIf b src s).clp = { s.clp with
    outbound := (latchIf b src s).clp.outbound
    reportNumber := (latchIf b src s).clp.reportNumber
    changeSet := (latchIf b src s).clp.changeSet } := by
  cases b
  · rfl
  · exact latch_clp src s

@[simp] theorem latchIf_inbound : (latchIf b src s).clp.inbound = s.clp.inbound := by rw [latchIf_clp]
@[simp] theorem latchIf_receiver : (latchIf b src s).clp.receiver = s.clp.receiver := by rw [latchIf_clp]
@[simp] theorem latchIf_discards : (latchIf b src s).clp.discards = s.clp.discards := by rw [latchIf_clp]
@[simp] theorem latchIf_restart : (latchIf b src s).clp.restart = s.clp.restart := by rw [latchIf_clp]
@[simp] theorem latchIf_line : (latchIf b src s).clp.line = s.clp.line := by rw [latchIf_clp]
@[simp] theorem latch_inbound : (latch src s).clp.inbound = s.clp.inbound := latchIf_inbound src true s
@[simp] theorem latch_receiver : (latch src s).clp.receiver = s.clp.receiver := latchIf_receiver src true s
@[simp] theorem latch_discards : (latch src s).clp.discards = s.clp.discards := latchIf_discards src true s
@[simp] theorem latch_restart : (latch src s).clp.restart = s.clp.restart := latchIf_restart src true s
@[simp] theorem latch_line : (latch src s).clp.line = s.clp.line := latchIf_line src true s

/-- A latch keeps every frame that waits, in its place. -/
theorem latch_prefix : ∃ more, (latch src s).clp.outbound = s.clp.outbound ++ more := by
  unfold latch
  split
  · exact Clp.raise_prefix _ { s.clp with changeSet := s.clp.changeSet ||| src.mask }
  · exact ⟨[], by simp⟩

/-- After a latch an enabled source is a member. -/
theorem latch_member (h : s.settings.enables.getLsbD src.bit = true) :
    (latch src s).clp.changeSet.getLsbD src.bit = true := by
  unfold latch
  split
  · cases src <;> simp [Clp.gain, ChangeSource.mask, ChangeSource.bit]
  · simp_all [hasSource]

/-- A latch removes no member. -/
theorem latch_keeps (k : Nat) (h : s.clp.changeSet.getLsbD k = true) :
    (latch src s).clp.changeSet.getLsbD k = true := by
  unfold latch
  split
  · simp [h]
  · exact h

/-- A latch adds only an enabled source. -/
theorem latch_adds (k : Nat) (h : (latch src s).clp.changeSet.getLsbD k = true) :
    s.clp.changeSet.getLsbD k = true ∨ (k = src.bit ∧ s.settings.enables.getLsbD k = true) := by
  unfold latch at h
  split at h
  · rename_i hc
    simp only [State.setClp_clp, Clp.gain_changeSet, BitVec.getLsbD_or, Bool.or_eq_true] at h
    refine h.imp id fun hk => ?_
    have : k = src.bit := by
      simp [ChangeSource.mask, BitVec.getLsbD_shiftLeft] at hk
      omega
    subst this
    simp_all [hasSource]
  · exact .inl h

/-! ### Reports -/

@[simp] theorem raiseReport_now : (raiseReport r s).now = s.now := rfl
@[simp] theorem raiseReport_power : (raiseReport r s).power = s.power := rfl
@[simp] theorem raiseReport_settings : (raiseReport r s).settings = s.settings := rfl
@[simp] theorem raiseReport_ssu : (raiseReport r s).ssu = s.ssu := rfl
@[simp] theorem raiseReport_wlc : (raiseReport r s).wlc = s.wlc := rfl
@[simp] theorem raiseReport_wce : (raiseReport r s).wce = s.wce := rfl
@[simp] theorem raiseReport_lt : (raiseReport r s).lt = s.lt := rfl
@[simp] theorem raiseReport_evm : (raiseReport r s).evm = s.evm := rfl
@[simp] theorem raiseReport_mlm : (raiseReport r s).mlm = s.mlm := rfl
@[simp] theorem raiseReport_dsh : (raiseReport r s).dsh = s.dsh := rfl
@[simp] theorem raiseReport_cds : (raiseReport r s).cds = s.cds := rfl
@[simp] theorem raiseReport_clp : (raiseReport r s).clp = s.clp.raise r := rfl
@[simp] theorem raiseReport_ssr : (raiseReport r s).ssr = s.ssr := rfl
@[simp] theorem raiseReport_pending : (raiseReport r s).pending = s.pending := rfl

/-- A latch under a condition, as the statements write it, is the model's `latchIf`. -/
theorem latch_ite (p : Prop) [Decidable p] (src : ChangeSource) (s : State) :
    (if p then latch src s else s) = latchIf (decide p) src s := by
  by_cases h : p <;> simp [h]

/-- The latches of a scan change the port alone. -/
theorem State.scanLatches_frame (s t : State) : s.scanLatches t = s.setClp (s.scanLatches t).clp := by
  simp only [State.scanLatches, latch_ite]
  rw [latchIf_frame, latchIf_frame, latchIf_frame, latchIf_frame _ _ s]
  rfl

/-- The latches of a drive period change the port alone. -/
theorem State.periodLatches_frame (s t : State) : s.periodLatches t = s.setClp (s.periodLatches t).clp := by
  simp only [State.periodLatches, latch_ite]
  rw [latchIf_frame, latchIf_frame _ _ s]
  rfl

end Sys2Proof.Machine
end

