-- ==== Sys2Proof/Laws/Requests.lean ====
section
/-! SUPPORT. Sys2Proof/Laws/Requests.lean: what the taking of a request can do, once for every request kind. -/

namespace Sys2Proof.Machine

open Sys2Proof

/-- A supplied part takes the event after the time that passed. -/
theorem onSupply_main (dt : Nat) (s : State) (act : State → State) (h : s.power.main = true) :
    onSupply dt s act = .next (act (s.tick dt)) := by simp [onSupply, h]

/-- Without the main supply only time passes. -/
theorem onSupply_off (dt : Nat) (s : State) (act : State → State) (h : s.power.main = false) :
    onSupply dt s act = .next (s.tick dt) := by simp [onSupply, h]

/-- Whatever the supply, an event completes. -/
theorem onSupply_next (dt : Nat) (s : State) (act : State → State) : ∃ t, onSupply dt s act = .next t := ⟨_, rfl⟩

/-- The state the owner of a request finds: time has passed, the frame is off the inbound queue, and its reply holds its
place at the end of the outbound queue. -/
def takenState (dt : Nat) (f : InFrame) (rest : List InFrame) (s : State) : State := takeFrame f rest (s.tick dt)

/-- A request that can be taken is decoded and answered by its owner. -/
theorem execRequest_taken {α : Type} (dt : Nat) (kind : Byte) (reader : Reader α) (owner : α → State → Answer) (s : State)
    (f : InFrame) (rest : List InFrame) (hm : s.power.main = true) (hi : s.clp.inbound = f :: rest) (hk : f.kind = kind)
    (ho : s.clp.outbound.length < 8) (hr : s.clp.restart = none) :
    execRequest dt kind reader owner s =
      .next (putReply s.clp.outbound.length f (answerFrame reader owner f (takenState dt f rest s))) := by
  have hc : (s.tick dt).canTake = true := by simp [State.canTake, outboundMax, ho, hr]
  rw [execRequest, onSupply_main _ _ _ hm]
  simp [takeRequest, hi, hk, hc, takenState]

/-- A request that cannot be taken has no effect: only time passes. -/
theorem execRequest_not_taken {α : Type} (dt : Nat) (kind : Byte) (reader : Reader α) (owner : α → State → Answer)
    (s : State) (h : (∀ f rest, s.clp.inbound = f :: rest → f.kind ≠ kind) ∨ s.canTake = false) :
    execRequest dt kind reader owner s = .next (s.tick dt) := by
  have hc : (s.tick dt).canTake = s.canTake := rfl
  unfold execRequest onSupply
  split
  · unfold takeRequest
    simp only [State.tick_clp, hc]
    split
    · rename_i f rest hi
      rcases h with h | h
      · simp [h f rest hi]
      · simp [h]
    · rfl
  · rfl

@[simp] theorem answerFrame_some {α : Type} (reader : Reader α) (owner : α → State → Answer) (f : InFrame) (s : State)
    (x : α) (h : decodeAll reader f.fields = some x) : answerFrame reader owner f s = owner x s := by
  simp [answerFrame, h]

@[simp] theorem answerFrame_none {α : Type} (reader : Reader α) (owner : α → State → Answer) (f : InFrame) (s : State)
    (h : decodeAll reader f.fields = none) : answerFrame reader owner f s = refuse .badField s := by
  simp [answerFrame, h]

/-- The reply of an owner that changed nothing of the port stands at the end of the outbound queue. -/
theorem putReply_clp (f : InFrame) (a : Answer) (rest : List InFrame) (c : Clp)
    (h : a.state.clp = { c with inbound := rest, outbound := c.outbound ++ [.reply f.kind f.tag .done .none] }) :
    putReply c.outbound.length f a =
      a.state.setClp
        { c with inbound := rest, outbound := c.outbound ++ [.reply f.kind f.tag a.result a.body] } := by
  simp [putReply, h]

/-- Reports raised by an owner stand behind its reply. -/
theorem putReply_behind (f : InFrame) (a : Answer) (out more : List OutFrame)
    (h : a.state.clp.outbound = out ++ [.reply f.kind f.tag .done .none] ++ more) :
    putReply out.length f a =
      a.state.setClp
        { a.state.clp with outbound := out ++ [.reply f.kind f.tag a.result a.body] ++ more } := by
  simp [putReply, h]

/-- A request that is next to be taken and whose fields decode is answered by its owner. -/
theorem asked_decoded {α : Type} {dt : Nat} {kind tag : Byte} {fields : List Byte} {rest : List InFrame} {s : State}
    {reader : Reader α} {x : α} (owner : α → State → Answer) (h : s.asked kind tag fields rest)
    (hx : decodeAll reader fields = some x) :
    execRequest dt kind reader owner s =
      .next
        (putReply s.clp.outbound.length { kind := kind, tag := tag, fields := fields }
          (owner x (takenState dt { kind := kind, tag := tag, fields := fields } rest s))) := by
  obtain ⟨hm, hi, ho, hr⟩ := h
  rw [execRequest_taken dt kind reader owner s _ rest hm hi rfl ho hr, answerFrame_some _ _ _ _ x hx]

/-- A refusal without fields is the reply and nothing else. -/
theorem putReply_refuse (dt : Nat) (kind tag : Byte) (fields : List Byte) (rest : List InFrame) (s : State)
    (code : ResultCode) :
    putReply s.clp.outbound.length { kind := kind, tag := tag, fields := fields }
        (refuse code (takenState dt { kind := kind, tag := tag, fields := fields } rest s)) =
      s.replied dt rest kind tag code .none := by
  simp [putReply, refuse, takenState, takeFrame, State.replied, Clp.answered, State.setClp]

/-- A request that is next to be taken and whose fields do not decode is answered BadField. -/
theorem asked_undecoded {α : Type} {dt : Nat} {kind tag : Byte} {fields : List Byte} {rest : List InFrame} {s : State}
    {reader : Reader α} (owner : α → State → Answer) (h : s.asked kind tag fields rest)
    (hx : decodeAll reader fields = none) :
    execRequest dt kind reader owner s = .next (s.replied dt rest kind tag .badField .none) := by
  obtain ⟨hm, hi, ho, hr⟩ := h
  rw [execRequest_taken dt kind reader owner s _ rest hm hi rfl ho hr, answerFrame_none _ _ _ _ hx, putReply_refuse]

/-- An answer that changes nothing but adds its reply. -/
theorem putReply_same (dt : Nat) (kind tag : Byte) (fields : List Byte) (rest : List InFrame) (s : State)
    (code : ResultCode) (body : ReplyBody) :
    putReply s.clp.outbound.length { kind := kind, tag := tag, fields := fields }
        { state := takenState dt { kind := kind, tag := tag, fields := fields } rest s, result := code, body := body } =
      s.replied dt rest kind tag code body := by
  simp [putReply, takenState, takeFrame, State.replied, Clp.answered, State.setClp]

end Sys2Proof.Machine
end

