-- ==== Sys2Proof/WellFormed.lean ====
section
/-! DEFINITION. Sys2Proof/WellFormed.lean: which commands the outside can send. A raw sample is a count of 0..4 095 (R1); a
measured current fits its two bytes on the line (log entry 17). Every other operand is well formed by its type. -/

namespace Sys2Proof

/-- Every raw sample is a count the converter can give (R1). -/
def rawCountsOk (raw : Vector Nat 9) : Bool := raw.toList.all (· ≤ 4095)

/-- Every measured current can be carried in a frame (log entry 17). -/
def currentsOk (currents : Vector Nat 6) : Bool := currents.toList.all (· ≤ Config.measuredCurrentMax)

/-- Whether a command is well formed. -/
def Instr.wf : Instr → Bool
  | .scan _ raw => rawCountsOk raw
  | .drivePeriod _ currents => currentsOk currents
  | .detectLineChange _ _ | .debounceExpiry _ | .powerOffTimeExpiry _ | .linkSettleExpiry _ => true
  | .identityReadEnd _ _ | .identityRetry _ | .poll _ | .pollCompletion _ _ => true
  | .recoveryLineRead _ _ _ | .clockPulseEnd _ _ | .drive _ | .demandExpiry _ _ => true
  | .suspendTimerExpiry _ | .driverTrip _ _ | .supplySettleExpiry _ | .idleTimerExpiry _ => true
  | .byteReceived _ _ _ | .gapExpiry _ | .frameSent _ | .unknownKind _ => true
  | .status _ | .readChanges _ | .clearChanges _ | .changeConfig _ => true
  | .sectionConfig _ | .profileWrite _ | .release _ | .faultClear _ => true
  | .arm _ | .disarm _ | .captureConfig _ | .assortment _ => true
  | .readLifts _ | .readTotals _ | .undoLast _ | .correct _ => true
  | .reassign _ | .manualLift _ | .tripClose _ | .payloadLimit _ => true
  | .zoneWrite _ | .zoneEnable _ | .zoneRead _ | .limiterConfig _ => true
  | .ratedWrite _ | .linkStatus _ | .linkReset _ | .calibrate _ => true
  | .tare _ | .channelCalibration _ | .geometryConfig _ | .storeSettings _ => true
  | .storeWriteCompletion _ _ | .restartRequest _ | .restart _ | .mainSupplyLoss _ => true
  | .standbySupplyLoss _ | .standbySupplyReturn _ => true

end Sys2Proof
end

