-- ==== Sys2Proof/Tests/Slice0.lean ====
section
/-! SUPPORT. Sys2Proof/Tests/Slice0.lean: tests, and for each statement with hypotheses a witness: concrete states and
operands that meet them. Expected values come from the worked cases of spec/, named at each test. -/

namespace Sys2Proof.Machine.Tests

open Sys2Proof Sys2Proof.Machine

/-! ### Well-formed commands: each check refuses an ill-formed one -/

theorem test_wf_scan_top : (Instr.scan 10 (Vector.replicate 9 4095)).wf = true := by decide

theorem test_wf_refuses_raw_count : (Instr.scan 10 ((Vector.replicate 9 4095).set 8 4096)).wf = false := by decide

theorem test_wf_period_top : (Instr.drivePeriod 10 (Vector.replicate 6 65535)).wf = true := by decide

theorem test_wf_refuses_current : (Instr.drivePeriod 10 ((Vector.replicate 6 0).set 5 65536)).wf = false := by decide

/-! ### No table row has bits -/

theorem test_no_word_spells_a_command : decodeTableWord 8 0x01 = none := by decide

theorem test_fetch_word_leaves_state : State.reset.withFetchWord 16 0x7E = State.reset := rfl

/-! ### Worked cases of chapter 1 -/

/-- The MAIN calibration of section 1.2. -/
def mainCal : ChannelCal := { rawLo := 512, rawHi := 3584, valLo := -300, valHi := 800 }

theorem test_main_calibration :
    [1500, 512, 300, 3900].map (calibrate mainCal (-300) 800) = [54, -300, -300, 800] := by decide

theorem test_reach_cases :
    tipReach defaultGeometry 300 (-100) 1500 = 8517 ∧ tipReach defaultGeometry 800 (-800) 0 = 1617 := by decide +kernel

theorem test_tilt_cases : tiltAlong 60 40 300 = 72 ∧ tiltAlong 60 40 (-1200) = -65 := by decide +kernel

/-! ### Worked cases of chapters 2 and 3 -/

/-- A head with these Z and K. -/
def headOf (z k : Nat) : HeadIdentity := { serial := 40115302, rating := 30000, zero := z, scale := k }

theorem test_force_cases :
    rawForce (headOf 2150 907) 1000 41210 = 8649 ∧ rawForce (headOf 2150 907) 1012 41210 = 8753 ∧
      rawForce (headOf 2150 907) 1000 1900 = -55 ∧ rawForce (headOf 2150 2048) 1000 2151 = 1 ∧
      rawForce (headOf 2150 2048) 1000 2149 = -1 ∧ rawForce (headOf 2150 4000) 1000 65535 = 61899 := by decide

theorem test_window_masses :
    (meanForce 276871 32, grossMass 8652) = (8652, 882) ∧ (meanForce 100016 32, grossMass 3126) = (3126, 319) ∧
      (meanForce 92800 32, grossMass 2900) = (2900, 296) ∧ (meanForce 640000 16, grossMass 40000) = (40000, 4079) := by
  decide

theorem test_tare_mass : meanForce 97291 32 = 3040 ∧ grossMass 3040 = 310 := by decide

theorem test_grip_number_wraps : nextGrip 65534 = 65535 ∧ nextGrip 65535 = 1 := by decide

/-! ### Worked cases of chapters 4 and 5 -/

theorem test_warn_levels : warnLevelOf 12000 = 11400 ∧ warnLevelOf 1001 = 950 := by decide

theorem test_payload_states :
    payloadStateOf 11399 12000 = .normal ∧ payloadStateOf 11400 12000 = .warn ∧ payloadStateOf 12000 12000 = .full := by
  decide

/-- Zone 1 of section 5.4. -/
def cabZone : Zone :=
  { enable := true, kind := .stop, chassis := .front, slewStart := -250, slewStop := 250, reachMin := 1500,
    reachMax := 4500, slow := 1000, guard := 150 }

/-- A scan record with this slew, reach and articulation. -/
def recordAt (slew : Int) (reach : Nat) (artic : Int) : ScanRecord :=
  { restartScanRecord defaultGeometry with slew := slew, reach := reach, artic := artic }

theorem test_effective_bounds :
    effectiveBounds (recordAt 0 3000 200) cabZone = (-50, 450) ∧
      effectiveBounds (recordAt 0 3000 450) { cabZone with slewStart := 1500, slewStop := 1800 } = (1900, 1900) := by
  decide

theorem test_guard_factors :
    [-400, -120, -60, -50].map (fun slew => guardA (recordAt slew 3000 200) cabZone) =
        [some 1000, some 466, some 66, none] ∧
      guardA (recordAt (-70) 2400 200) cabZone = some 133 ∧ containsTip (recordAt (-50) 3000 200) cabZone = true ∧
      zoneArmed (recordAt (-70) 1200 200) cabZone = false := by decide

/-! ### Worked cases of chapter 6 -/

theorem test_pressure_moment :
    pressureMoment defaultLimiter 900 120 = 70237 ∧ pressureMoment defaultLimiter 900 1400 = 0 := by decide

theorem test_rated_moments :
    [72, -65, 13, 200, -200].map (ratedMoment defaultRated) = [82480, 92600, 88960, 62000, 98000] ∧
      clampTilt 495 = 200 ∧ clampTilt (-300) = -200 := by decide

theorem test_rated_truncates : ratedMoment ((defaultRated.set 5 81000).set 6 80977) 72 = 80990 := by decide

theorem test_factor_in_warn :
    linkMoment 8649 8517 = 73663 ∧ utilisation 73663 82480 = 893 ∧ stateFromU 893 850 1000 = .warn ∧
      limiterFactor .warn 893 850 1000 = 713 ∧ limiterFactor .warn 851 750 900 = 326 := by decide

theorem test_limiter_hysteresis :
    moveLimiter .normal 860 850 1000 30 = .warn ∧ moveLimiter .warn 1005 850 1000 30 = .limit .moment ∧
      moveLimiter (.limit .moment) 985 850 1000 30 = .limit .moment ∧
      moveLimiter (.limit .moment) 965 850 1000 30 = .warn ∧ moveLimiter .warn 830 850 1000 30 = .warn ∧
      moveLimiter .warn 815 850 1000 30 = .normal ∧ moveLimiter (.limit .noGeometry) 900 850 1000 30 = .warn := by
  decide

/-! ### Worked cases of chapters 7 and 8 -/

/-- An evaluation with these slow and slew factors. -/
def evalWith (slow slewB : Nat) (intrusion : Bool) : EvalRecord :=
  { restartEval (Vector.replicate 8 defaultZone) with slow := slow, slewB := slewB, intrusion := intrusion }

theorem test_shaping_chain :
    shape 3 (defaultSection 3) (evalWith 1000 1000 false) 713 800 800 = 570 ∧
      shape 0 (defaultSection 0) (evalWith 700 466 false) 713 (-600) (-600) = -195 ∧
      shape 1 (defaultSection 1) (evalWith 1000 1000 false) 0 (-500) (-500) = 0 ∧
      shape 2 (defaultSection 2) (evalWith 700 1000 false) 713 (-333) (-333) = -166 ∧
      shape 3 (defaultSection 3) (evalWith 1000 1000 true) 713 300 300 = 0 ∧
      shape 3 (defaultSection 3) (evalWith 1000 1000 true) 713 (-300) (-300) = -300 := by decide

theorem test_ramp_and_limiter_stop :
    ramp (defaultSection 3) 0 570 800 = 20 ∧ ramp (defaultSection 3) 560 570 800 = 570 ∧
      ramp (defaultSection 3) 570 570 800 = 570 ∧ ramp (defaultSection 3) 570 0 800 = 530 ∧
      ramp (defaultSection 3) 10 0 800 = 0 ∧ ramp { defaultSection 3 with stopMode := .hard } 570 0 800 = 0 ∧
      ramp (defaultSection 0) 100 (-300) (-300) = 60 := by decide

theorem test_profile_wraps :
    nextIndex { defaultSection 5 with range := .low, stepDivider := 3, endMode := .continuous } 7 2 = 0 ∧
      nextIndex { defaultSection 5 with range := .low, stepDivider := 3, endMode := .autostop } 7 2 = 7 ∧
      nextDivider { defaultSection 5 with stepDivider := 3 } 1 = 2 := by decide

theorem test_setpoints :
    [20, 300, 570, -195, 1000].map (setpointOf (defaultSection 3)) = [318, 570, 813, 475, 1200] := by decide

/-! ### The checks of the two lines (R24, R178, R181) -/

theorem test_crc16_of_digits :
    crc16 [0x31#8, 0x32#8, 0x33#8, 0x34#8, 0x35#8, 0x36#8, 0x37#8, 0x38#8, 0x39#8] = 0x29B1#16 := by decide +kernel

theorem test_number_bytes :
    natBytes 2 0x1234 = [0x12#8, 0x34#8] ∧ intBytes 2 (-2) = [0xFF#8, 0xFE#8] ∧ intOfBytes [0xFF#8, 0xFE#8] = -2 := by
  decide

theorem test_mask_bit_beyond_fields : decodeAll readGeometry [0x08#8, 0#8, 0#8] = none := by decide

theorem test_crc8_of_one : crc8 [0x01#8] = 0x07#8 := by decide

/-! ### The states the witnesses use -/

/-- The state a completed command leaves. -/
def nextOf (o : Host.Outcome State Fault Refusal) : State :=
  match o with
  | .next t => t
  | .fault _ | .refused _ => State.reset

/-- A report that waits to be sent. -/
def waiting : OutFrame := .report 0 (.change .coilFault 0x1000#16)

/-- `s` with this request, tag 7, next to be taken, and room for one more frame (R180, R182). -/
def ask (kind : Byte) (fields : List Byte) (s : State) : State :=
  { s with
    power := { main := true, standby := true }
    clp :=
      { s.clp with
        inbound := [{ kind := kind, tag := 7#8, fields := fields }]
        outbound := List.replicate 7 waiting
        restart := none } }

/-- The request is asked, whatever the state. -/
theorem wit_asked (kind : Byte) (fields : List Byte) (s : State) : (ask kind fields s).asked kind 7#8 fields [] :=
  ⟨rfl, rfl, Nat.lt_succ_self 7, rfl⟩

/-- A head with serial 1. -/
def someHead : HeadIdentity := { serial := 1, rating := 30000, zero := 2150, scale := 907 }

/-- A good sample at the upper edge of what a capture accepts. -/
def goodSample : GoodSample := { count := 41210, swing := 30, status := .ok, force := 40000, clamped := false }

/-- A listed lift at the greatest mass. -/
def someLift : LiftRecord :=
  { number := 65535, direction := .load, assortment := 15, mass := some 4095, correction := some (-500)
    flags := { extended := true, belowTare := false, manual := false, geometryUnknown := false } }

/-- The totals of its entry, with one unlisted lift. -/
def someTotals : DirTotals := { count := 2, weighed := 1, mass := 3595, unlisted := 1, unlistedMass := 0 }

/-- A trip with one listed lift and no number left. -/
def someTrip : Trip :=
  { coldTrip with
    counter := 65535
    estimate := 3595
    lifts := [someLift]
    table := coldTrip.table.set 15 { loads := someTotals, unloads := emptyTotals } }

/-- Settings with an enabled STOP zone, a bound calibration record and the payload limit at its least. -/
def someSettings : Settings :=
  { Settings.defaults with
    zones := Settings.defaults.zones.set 0 cabZone
    calRecord := { bound := some 1, trim := 1100, tare := 2000, tareDone := true }
    payloadLimit := 1000 }

/-- TELE drives coil A at its greatest output; ROTATE is in FAULT. -/
def someCds : Cds :=
  { (restartCds (Vector.ofFn defaultSection)) with
    sections :=
      ((restartCds (Vector.ofFn defaultSection)).sections.set 3
        { state := .driveA, output := 1000, active := .a, setpoint := 1200, measured := 1200, dead := 0, opens := 2
          fault := none }).set 4
        { state := .fault, output := 0, active := .none, setpoint := 0, measured := 12, dead := 1, opens := 0
          fault := some { cause := .openCoil, coil := .a, setpoint := 813, measured := some 12 } }
    supply := .active
    closed := true
    lockCause := none }

/-- The shaper beside it: TELE held at its greatest demand. -/
def someDsh : Vector DshSection 6 :=
  (restartDsh (Vector.ofFn defaultSection)).set 3
    { (restartDshSection (defaultSection 3)) with
      held := 1000, latch := false, t0 := 1000, target := 1000, output := 1000, requested := .a }

/-- A store with both slots good and the sequence at its wrap. -/
def someSsr : Ssr :=
  { resetSsr with
    slots := #v[some { image := someSettings, sequence := 65535 }, some { image := someSettings, sequence := 0 }]
    current := some 1 }

/-- A running part: link RUNNING with a poll open, a capture COLLECTING with a full window less one, TELE driving, one lift
listed, a frame being received. -/
def busy : State :=
  { State.reset with
    settings := someSettings
    wlc :=
      { restartWlc 0 false with
        state := .running, detectLine := true, detect := true, supply := true, activity := .polling 65535 0
        sent := [.sampleRequest]
        identity := some someHead, failures := 2, history := [0, 0]
        latest := some { poll := 65535, outcome := .good goodSample, forceUsable := true, linkForce := true }
        ring := List.replicate 8 40000 }
    wce :=
      { restartWce false with
        state := .collecting, grip := 65535, origin := some .outside, validityRead := true, remaining := 1
        window := List.replicate 31 { poll := 0, force := 40000 } }
    lt := someTrip
    mlm := { source := .link, figures := none, state := .limit .noGeometry, factor := 0 }
    dsh := someDsh
    cds := someCds
    clp := { resetClp with receiver := .inFrame [120#8] 0, changeSet := 0xFFFF#16, reportNumber := 255 }
    ssr := someSsr
    pending := [.drivePeriod 10 (Vector.replicate 6 1560)] }

/-! ### Witnesses: the machine and its invariants -/

theorem wit_StepRunsFrontCommand : busy.pending = .drivePeriod 10 (Vector.replicate 6 1560) :: [] ∧
    ({ busy with pending := [] } : State).pending = [] := ⟨rfl, rfl⟩

/-- The running part with its main supply gone, the standby supply present. -/
def dark : State := { busy with power := { main := false, standby := true } }

theorem wit_EveryCommandCompletes (dt : Nat) (level : Bool) :
    Instr.poll 0 ≠ .restart dt ∧ Instr.poll 0 ≠ .mainSupplyLoss dt ∧ Instr.poll 0 ≠ .standbySupplyLoss dt ∧
      Instr.poll 0 ≠ .standbySupplyReturn dt ∧ dark.power.main = false ∧ Instr.poll 0 ≠ .detectLineChange dt level ∧
      Instr.detectLineChange 0 false ≠ .restart dt := ⟨nofun, nofun, nofun, nofun, rfl, nofun, nofun⟩

/-- Log entry 7: without the main supply a period moves the clock alone, and the detect line its pin. -/
theorem test_unpowered_part_stands :
    exec (.drivePeriod 10 (Vector.replicate 6 1560)) dark = .next { dark with now := 10 } ∧
      exec (.detectLineChange 10 false) dark =
        .next { dark with now := 10, wlc := { dark.wlc with detectLine := false } } := ⟨rfl, rfl⟩

/-- The step every invariant's witness takes. -/
theorem wit_step_next : ∃ t, step busy = .next t := ⟨_, rfl⟩

theorem wit_StepKeepsTally : busy.lt.Sound ∧ ∃ t, step busy = .next t :=
  ⟨⟨by decide +kernel, by decide +kernel, by decide +kernel, by decide +kernel, by decide +kernel, by decide +kernel⟩,
    _, rfl⟩

theorem wit_coils : busy.cds.Sound ∧ busy.CoilsSound :=
  ⟨by refine ⟨?_, ?_, ?_, ?_, ?_, ?_, ?_, ?_⟩ <;> decide +kernel, by decide +kernel⟩

theorem wit_StepKeepsCoils : busy.cds.Sound ∧ busy.CoilsSound ∧ ∃ t, step busy = .next t :=
  ⟨wit_coils.1, wit_coils.2, _, rfl⟩

theorem wit_settings : someSettings.Sound := by
  refine ⟨?_, ?_, ?_, ?_, ?_, ?_, ?_, ?_, ?_, ?_, ?_, ?_, ?_, ?_, ?_, ?_, ?_⟩ <;> decide +kernel

theorem wit_StepKeepsSettings : busy.SettingsSound ∧ ∃ t, step busy = .next t := by
  refine ⟨⟨wit_settings, ?_, ?_⟩, _, rfl⟩
  · intro i m h
    have : m.image = someSettings := by
      match i, h with
      | 0, h => cases h; rfl
      | 1, h => cases h; rfl
    rw [this]
    exact wit_settings
  · intro w h
    cases h

theorem wit_StepKeepsMagnitudes : busy.SettingsSound ∧ busy.MagnitudesSound ∧ ∃ t, step busy = .next t :=
  ⟨wit_StepKeepsSettings.1, by decide +kernel, _, rfl⟩

theorem wit_StepKeepsLinkAndEngine : busy.wlc.Sound ∧ busy.EngineSound ∧ ∃ t, step busy = .next t := by
  refine ⟨⟨?_, ?_, ?_, ?_, ?_, ?_, ?_, ?_, ?_, ?_, ?_, ?_, ?_⟩, ⟨?_, ?_, ?_, ?_, ?_, ?_, ?_, ?_⟩, _, rfl⟩ <;> decide +kernel

theorem wit_StepKeepsMasses : busy.MassesSound ∧ ∃ t, step busy = .next t :=
  ⟨⟨by decide +kernel, nofun, by decide +kernel⟩, _, rfl⟩

theorem wit_StepKeepsPort : busy.clp.Sound ∧ busy.ChangesSound ∧ ∃ t, step busy = .next t := by
  refine ⟨⟨?_, ?_, ?_, ?_, ?_, ?_, ?_, ?_, ?_, ?_⟩, ?_, _, rfl⟩ <;> decide +kernel

theorem wit_StepKeepsStore : busy.ssr.Sound ∧ ∃ t, step busy = .next t := by
  refine ⟨⟨by decide +kernel, nofun, ?_, nofun, ?_⟩, _, rfl⟩
  · intro i m h
    match i, h with
    | 0, h => cases h; decide
    | 1, h => cases h; decide
  · intro i h
    cases h
    refine ⟨rfl, ?_⟩
    intro m hm x hx
    cases hm
    cases hx
    rfl

theorem wit_StepKeepsLimiterAndSensors : busy.mlm.Sound ∧ busy.ssu.Sound ∧ ∃ t, step busy = .next t := by
  refine ⟨⟨?_, ?_, ?_, ?_, nofun⟩, ⟨?_, ?_, ?_, ?_⟩, _, rfl⟩ <;> decide +kernel

theorem wit_CoilsArePartedByDeadTime (dt : Nat) (currents : Vector Nat 6) :
    busy.cds.Sound ∧ busy.CoilsSound ∧ (∃ t, exec (.driverTrip 0 .tele) busy = .next t) ∧
      Instr.driverTrip 0 .tele ≠ .restart dt ∧ Instr.driverTrip 0 .tele ≠ .drivePeriod dt currents :=
  ⟨wit_coils.1, wit_coils.2, ⟨_, rfl⟩, nofun, nofun⟩

theorem wit_RefusedRequestChangesNothing :
    (nextOf (exec (.unknownKind 0) (ask 0x05#8 [] busy))).clp.outbound[(ask 0x05#8 [] busy).clp.outbound.length]? =
      some (.reply 0x05#8 7#8 .unknownKind .none) := by decide +kernel

/-! ### Witnesses: arithmetic, encodings and the cab link -/

theorem wit_RoundingsAreNearest :
    (0 : Int) < 2 ∧ [roundHalfAway (-5) 2, roundHalfUp (-5) 2, floorDiv (-5) 2, truncDiv (-5) 2] = [-3, -2, -3, -2] := by
  decide

theorem wit_NumbersAndDriveFieldsReadBack :
    65535 < 256 ^ 2 ∧ (∀ x ∈ [(-32768 : Int), 32767, 0, 1, -1, 1000], -32768 ≤ x ∧ x ≤ 32767) ∧
      (List.replicate 13 0#8).length ≠ 14 := by decide

/-- A hunting receiver with the bytes of an Arm request to come, each 5 ms after the one before; `n` frames wait. -/
def lineOf (n : Nat) : State :=
  { State.reset with
    clp := { resetClp with inbound := List.replicate n { kind := 0x20#8, tag := 0#8, fields := [] } }
    pending := List.zipWith (fun g b => Instr.byteReceived g b false) (List.replicate 6 5) (frameBytes 0x20#8 [7#8]) }

theorem wit_CorrectFrameIsReceived (n : Nat) :
    (lineOf n).power.main = true ∧ (lineOf n).clp.receiver = .hunting ∧
      (List.replicate 6 5).length = ([] : List Byte).length + 6 ∧ (∀ g ∈ List.replicate 6 5, g ≤ 5) ∧
      (lineOf n).pending =
        List.zipWith (fun g b => Instr.byteReceived g b false) (List.replicate 6 5) (frameBytes 0x20#8 (7#8 :: [])) ∧
      (lineOf 3).clp.inbound.length < 4 ∧ ¬(lineOf 4).clp.inbound.length < 4 :=
  ⟨rfl, rfl, rfl, by decide, rfl, by decide, by decide⟩

/-- A receiver in a frame whose latest byte came at 0. -/
def inFrame (taken : List Byte) : State :=
  { State.reset with clp := { resetClp with receiver := .inFrame taken 0 } }

theorem wit_ByteReceivedMovesReceiver :
    State.reset.power.main = true ∧ State.reset.clp.receiver = .hunting ∧ (inFrame []).power.main = true ∧
      (inFrame []).clp.receiver = .inFrame [] 0 ∧ (inFrame []).now + 5 ≤ 0 + 5 ∧ ((121#8).toNat = 0 ∨ 120 < (121#8).toNat) ∧
      (1 ≤ (120#8).toNat ∧ (120#8).toNat ≤ 120) ∧ [2#8, 0x20#8, 7#8].length + 1 < (2#8).toNat + 4 ∧
      (2#8).toNat + 4 ≤ [2#8, 0x20#8, 7#8, 0#8, 0#8].length + 1 ∧
      bytesOf16 (crc16 ([2#8, 0x20#8, 7#8, 0#8, 0#8, 0#8].take 4)) ≠ [2#8, 0x20#8, 7#8, 0#8, 0#8, 0#8].drop 4 ∧
      0 + 5 < (inFrame []).now + 6 := by decide +kernel

theorem wit_GapExpiryAndFrameSent :
    (inFrame []).power.main = true ∧ (inFrame []).clp.receiver = .inFrame [] 0 ∧ State.reset.clp.receiver = .hunting ∧
      State.reset.clp.outbound = .report 0 (.change .settingsDefaulted 0x8000#16) :: [] ∧
      State.reset.clp.restart = none := ⟨rfl, rfl, rfl, rfl, rfl⟩

theorem test_gap_expires_at_5_ms :
    (nextOf (exec (.gapExpiry 5) (inFrame []))).clp.discards.gap = 1 ∧
      (nextOf (exec (.gapExpiry 4) (inFrame []))).clp.discards.gap = 0 := by decide +kernel

/-- A port with a restart pending and its reply waiting, or nothing waiting. -/
def restarting (sent : Bool) (out : List OutFrame) : State :=
  { State.reset with
    clp := { resetClp with outbound := out, restart := some { kind := .cold, replySent := sent } } }

theorem wit_GapExpiryAndFrameSent_restart (tag : Byte) :
    (restarting false []).clp.outbound = [] ∧
      (restarting true []).clp.restart = some { kind := .cold, replySent := true } ∧
      (restarting false [.reply 0x61#8 tag .done .none, waiting]).clp.outbound =
        .reply 0x61#8 tag .done .none :: [waiting] ∧
      (restarting false [waiting]).clp.restart = some { kind := .cold, replySent := false } := ⟨rfl, rfl, rfl, rfl⟩

theorem test_restart_reply_sent :
    (nextOf (exec (.frameSent 1) (restarting false [.reply 0x61#8 7#8 .done .none]))).clp.restart =
      some { kind := .cold, replySent := true } := by decide +kernel

theorem wit_UnknownOrUndecodedIsRefused_kind :
    (ask 0x13#8 [] busy).asked 0x13#8 7#8 [] [] ∧ requestKinds.contains 0x13#8 = false := ⟨wit_asked _ _ _, by decide⟩

/-- A payload of no bytes decodes for none of the requests with fields, and one of one byte not for those without. -/
theorem wit_UnknownOrUndecodedIsRefused_fields :
    decodeAll readU8 [] = none ∧ decodeAll readSources [] = none ∧ decodeAll readChangeConfig [] = none ∧
      decodeAll readDrive [] = none ∧ decodeAll readSectionConfig [] = none ∧ decodeAll readProfile [] = none ∧
      decodeAll readCapture [] = none ∧ decodeAll readOptU8 [] = none ∧ decodeAll readReadLifts [] = none ∧
      decodeAll readReadTotals [] = none ∧ decodeAll readCorrect [] = none ∧ decodeAll readReassign [] = none ∧
      decodeAll readManual [] = none ∧ decodeAll readOptU16 [] = none ∧ decodeAll readZoneWrite [] = none ∧
      decodeAll readZoneEnable [] = none ∧ decodeAll readLimiter [] = none ∧ decodeAll readRated [] = none ∧
      decodeAll readCalibrate [] = none ∧ decodeAll readChannel [] = none ∧ decodeAll readGeometry [] = none ∧
      decodeAll readRestart [2#8] = none ∧ decodeAll readNothing [0#8] = none := by decide

theorem wit_UnknownOrUndecodedIsRefused_asked (kind : Byte) :
    (ask kind [] busy).asked kind 7#8 [] [] ∧ (ask kind [0#8] busy).asked kind 7#8 [0#8] [] :=
  ⟨wit_asked _ _ _, wit_asked _ _ _⟩

/-- An Arm that waits at the bound of R180: 8 frames outbound. -/
def crowded : State :=
  { ask 0x20#8 [] busy with clp := { (ask 0x20#8 [] busy).clp with outbound := List.replicate 8 waiting } }

theorem wit_UnknownOrUndecodedIsRefused_untaken :
    (∀ f ∈ (ask 0x20#8 [] busy).clp.inbound.head?, f.kind ≠ 0x21#8 ∧ requestKinds.contains f.kind = true) ∧
      State.reset.clp.inbound.head? = none ∧ 8 ≤ crowded.clp.outbound.length ∧ (restarting false []).clp.restart ≠ none := by
  decide +kernel

/-- With 8 frames outbound the request waits (R180); the row of another kind, or of a kind no request has, takes nothing. -/
theorem test_request_waits :
    nextOf (exec (.arm 5) crowded) = { crowded with now := 5 } ∧
      nextOf (exec (.disarm 5) (ask 0x20#8 [] busy)) = { ask 0x20#8 [] busy with now := 5 } ∧
      nextOf (exec (.unknownKind 5) (ask 0x20#8 [] busy)) = { ask 0x20#8 [] busy with now := 5 } := by decide +kernel

theorem wit_StatusAnswersItsPages (page : Byte) :
    (ask 0x01#8 [page] busy).asked 0x01#8 7#8 [page] [] ∧ 5 ≤ (5#8 : Byte).toNat := ⟨wit_asked _ _ _, by decide⟩

theorem wit_ChangeRequestsKeepSet (hi lo : Byte) :
    (ask 0x02#8 [] busy).asked 0x02#8 7#8 [] [] ∧ (ask 0x02#8 [] busy).settings.ackMode = .clearOnRead ∧
      (ask 0x02#8 [] { busy with settings := { someSettings with ackMode := .explicit } }).settings.ackMode = .explicit ∧
      (ask 0x03#8 [hi, lo] busy).asked 0x03#8 7#8 [hi, lo] [] ∧
      (ask 0x04#8 [3#8, 0xEF#8, 0xFF#8, 1#8] busy).asked 0x04#8 7#8 [3#8, 0xEF#8, 0xFF#8, 1#8] [] ∧
      decodeAll readChangeConfig [3#8, 0xEF#8, 0xFF#8, 1#8] = some { enables := some 0xEFFF#16, mode := some .explicit } :=
  ⟨wit_asked _ _ _, rfl, rfl, wit_asked _ _ _, wit_asked _ _ _, by decide⟩

/-- Section 9.8, step 7: the source turned off leaves the set. -/
theorem test_disabled_source_leaves :
    (nextOf (exec (.changeConfig 0) (ask 0x04#8 [1#8, 0xEF#8, 0xFF#8] busy))).clp.changeSet = 0xEFFF#16 := by
  decide +kernel

theorem wit_LatchRaisesOneReport :
    (State.reset.settings.enables.getLsbD ChangeSource.coilFault.bit = true ∧
        State.reset.clp.changeSet.getLsbD ChangeSource.coilFault.bit = false) ∧
      busy.clp.changeSet.getLsbD ChangeSource.coilFault.bit = true ∧
      ({ someSettings with enables := 0x7FFF#16 } : Settings).enables.getLsbD ChangeSource.settingsDefaulted.bit =
        false := by
  decide +kernel

/-! ### Witnesses: demands and the engine's demand events -/

/-- The fields of a Drive with this TELE demand. -/
def driveFields (tele : Int) (enable halt : Byte) : List Byte :=
  List.replicate 6 0#8 ++ intBytes 2 tele ++ List.replicate 4 0#8 ++ [enable, halt]

/-- The part with its supply in this state, every coil off. -/
def supplied (supply : SupplyState) : State :=
  { busy with
    cds :=
      { (restartCds (Vector.ofFn defaultSection)) with
        supply := supply
        closed := supply == .waking || supply == .active
        lockCause := if supply = .locked then some .halt else none
        settleDue := if supply = .waking then some 100 else none
        idleDue := if supply = .active then some 1000 else none }
    dsh := restartDsh (Vector.ofFn defaultSection) }

theorem wit_DriveHoldsDemands (fields : List Byte) (s : State) :
    (ask 0x10#8 fields s).asked 0x10#8 7#8 fields [] ∧
      decodeAll readDrive (driveFields 1001 2#8 0#8) =
        some { demands := [0, 0, 0, 1001, 0, 0], enable := 2, halt := 0 } ∧
      decodeAll readDrive (driveFields (-49) 1#8 0#8) =
        some { demands := [0, 0, 0, -49, 0, 0], enable := 1, halt := 0 } ∧
      decodeAll readDrive (driveFields (-50) 0#8 1#8) =
        some { demands := [0, 0, 0, -50, 0, 0], enable := 0, halt := 1 } ∧
      (nextOf (exec (.drive 0) (ask 0x10#8 (driveFields (-49) 1#8 0#8) busy))).cds.supply = busy.cds.supply ∧
      (nextOf (exec (.drive 0) (ask 0x10#8 (driveFields (-50) 0#8 1#8) busy))).cds.supply ≠ busy.cds.supply :=
  ⟨wit_asked _ _ _, by decide +kernel, by decide +kernel, by decide +kernel, by decide +kernel, by decide +kernel⟩

/-- R137: a demand of 49‰ clears a latch and one of 50‰ does not. -/
theorem test_latch_clears_below_50 :
    (nextOf (exec (.drive 0) (ask 0x10#8 (driveFields (-49) 1#8 0#8) (supplied .active)))).dsh[3].latch = false ∧
      (nextOf (exec (.drive 0) (ask 0x10#8 (driveFields (-50) 1#8 0#8) (supplied .active)))).dsh[3].latch = true := by
  decide +kernel

theorem wit_DriveLocksOrWakesSupply :
    (ask 0x10#8 (driveFields 1 1#8 1#8) busy).cds.supply ≠ .locked ∧
      (ask 0x10#8 (driveFields 1 1#8 1#8) (supplied .locked)).cds.supply = .locked ∧
      decodeAll readDrive (driveFields 1 1#8 1#8) = some { demands := [0, 0, 0, 1, 0, 0], enable := 1, halt := 1 } ∧
      decodeAll readDrive (driveFields 1 1#8 0#8) = some { demands := [0, 0, 0, 1, 0, 0], enable := 1, halt := 0 } ∧
      (ask 0x10#8 (driveFields 1 1#8 0#8) (supplied .asleep)).cds.supply = .asleep ∧
      (nextOf (exec (.drive 0) (ask 0x10#8 (driveFields 1 1#8 0#8) (supplied .asleep)))).dsh[3].held ≠ 0 ∧
      (∀ i : Fin 6, (nextOf (exec (.drive 0) (ask 0x10#8 (driveFields 0 1#8 0#8) (supplied .asleep)))).dsh[i].held = 0) := by
  decide +kernel

theorem test_drive_wakes_supply :
    (nextOf (exec (.drive 0) (ask 0x10#8 (driveFields 1 1#8 0#8) (supplied .asleep)))).cds.settleDue = some 100 := by
  decide +kernel

/-- `s` with the demand of one section held, and its expiry at 150 ms. -/
def holding (v : ValveSection) (demand : Int) (s : State) : State :=
  { s with dsh := s.dsh.set v.index { s.dsh[v.index] with held := demand, expiryDue := some 150 } }

theorem wit_DemandExpiryDropsDemand :
    busy.power.main = true ∧ (holding .tele 1000 busy).dsh[ValveSection.tele.index].expiryDue = some 150 ∧
      150 ≤ busy.now + 150 ∧ busy.now + 149 < 150 := by decide +kernel

theorem test_demand_expires :
    (nextOf (exec (.demandExpiry 150 .tele) (holding .tele 1000 busy))).dsh[3].held = 0 ∧
      (nextOf (exec (.demandExpiry 149 .tele) (holding .tele 1000 busy))).dsh[3].held = 1000 := by decide +kernel

/-- The engine in a state, at 300 ms, with GRAPPLE held; a closure run began at `began`. -/
def gripState (st : EngineState) (grapple : Int) (began : Option Nat) (tare : TareState) : State :=
  holding .grapple grapple
    { busy with
      now := 300
      wlc := { busy.wlc with tare := { restartTare with state := tare } }
      wce := { busy.wce with state := st, closureRun := began, origin := if st = .idle then none else some .outside } }

theorem wit_ClosureTestOpensGrip :
    ((gripState .idle 200 none .running).settings.capture.gripThreshold : Int) ≤
        (gripState .idle 200 none .running).dsh[(5 : Fin 6)].held ∧
      (gripState .idle 199 (some 0) .running).dsh[(5 : Fin 6)].held <
        (gripState .idle 199 (some 0) .running).settings.capture.gripThreshold ∧
      (gripState .idle 199 none .running).wce.closureRun = none ∧
      (gripState .idle 199 (some 0) .running).wce.closureRun = some 0 ∧
      (gripState .idle 199 (some 1) .running).now - 1 <
        (gripState .idle 199 (some 1) .running).settings.capture.holdTime ∧
      (gripState .armed 199 (some 0) .none).wce.state ≠ .idle ∧
      (gripState .idle 199 (some 0) .running).settings.capture.holdTime ≤
        (gripState .idle 199 (some 0) .running).now - 0 ∧
      (gripState .idle 199 (some 0) .running).wce.state = .idle ∧
      (gripState .idle 199 (some 0) .running).wlc.tare.state = .running ∧
      (gripState .idle 199 (some 0) .none).wlc.tare.state ≠ .running := by decide +kernel

theorem test_closure_arms_and_wraps_grip :
    (closureTest (gripState .idle 199 (some 0) .running)).wce.state = .armed ∧
      (closureTest (gripState .idle 199 (some 0) .running)).wce.grip = 1 := by decide +kernel

theorem wit_ReleaseTestClosesGrip :
    (-((gripState .held (-199) none .none).settings.capture.gripThreshold : Int) <
        (gripState .held (-199) none .none).dsh[(5 : Fin 6)].held) ∧
      (gripState .held (-200) none .none).dsh[(5 : Fin 6)].held ≤
        -((gripState .held (-200) none .none).settings.capture.gripThreshold : Int) ∧
      (gripState .idle (-200) none .none).wce.state = .idle ∧ (gripState .held (-200) none .none).wce.openEdge = false ∧
      (gripState .held (-200) none .none).wce.origin = some .outside ∧
      (gripState .held (-200) none .none).wce.state = .held ∧
      (gripState .suspended (-200) none .none).wce.state = .suspended := by decide +kernel

/-- Section 3.8: an UNKNOWN drop counts as OUTSIDE, so a grip taken outside is RETURNED and files nothing. -/
theorem test_release_files_nothing_outside :
    (releaseTest (gripState .held (-200) none .none)).lt = busy.lt ∧
      (releaseTest (gripState .held (-200) none .none)).wce.state = .idle := by decide +kernel

/-- The engine in a state with MAIN held. -/
def liftState (st : EngineState) (mainBoom : Int) : State :=
  holding .mainBoom mainBoom { busy with wce := { busy.wce with state := st } }

theorem wit_LiftConditionsRunCapture :
    ((liftState .armed 150).settings.capture.liftThreshold : Int) ≤ (liftState .armed 150).dsh[(1 : Fin 6)].held ∧
      ¬(((liftState .armed 149).settings.capture.liftThreshold : Int) ≤ (liftState .armed 149).dsh[(1 : Fin 6)].held ∨
        ((liftState .armed 149).settings.capture.liftThreshold : Int) ≤ (liftState .armed 149).dsh[(2 : Fin 6)].held) ∧
      (liftState .armed 150).wce.state = .armed ∧ (liftState .armed 150).wlc.state = .running ∧
      (liftState .armed 150).calValid = true ∧
      ({ liftState .armed 150 with settings := Settings.defaults } : State).calValid = false ∧
      (liftState .collecting 149).wce.state = .collecting ∧ (liftState .suspended 150).wce.state = .suspended ∧
      (liftState .gripped 150).wce.state = .gripped := by decide +kernel

/-- A suspended capture whose timer runs out at 3 000. -/
def suspended : State :=
  { busy with wce := { busy.wce with state := .suspended, suspendDue := some 3000 } }

theorem wit_SuspendExpiryStallsCapture :
    suspended.power.main = true ∧ suspended.wce.state = .suspended ∧ suspended.wce.suspendDue = some 3000 ∧
      3000 ≤ suspended.now + 3000 ∧ suspended.now + 2999 < 3000 ∧ busy.wce.state ≠ .suspended := by decide +kernel

/-! ### Witnesses: the drive period, coils and supply -/

/-- The running part with TELE in profile mode at index `index`, output and demand as given. -/
def profiled (index : Nat) (running : Bool) (held output : Int) : State :=
  { busy with
    settings :=
      { someSettings with
        sections := someSettings.sections.set 3
          { defaultSection 3 with mode := .profile, range := .low, stepDivider := 3, endMode := .continuous } }
    dsh := busy.dsh.set 3
      { busy.dsh[3] with held := held, output := output, running := running, index := index, divider := 2 } }

theorem wit_DrivePeriodRegularMode :
    busy.power.main = true ∧ busy.settings.sections[(3 : Fin 6)].mode = .regular ∧ busy.cds.supply = .active ∧
      busy.cds.sections[(3 : Fin 6)].state ≠ .fault ∧ busy.cds.sections[(3 : Fin 6)].state ≠ .deadtime ∧
      (nextOf (exec (.drivePeriod 10 (Vector.replicate 6 1560)) busy)).cds.supply = .active ∧
      (nextOf (exec (.drivePeriod 10 (Vector.replicate 6 1560)) busy)).cds.sections[(3 : Fin 6)].state ≠ .fault ∧
      busy.cds.sections[(4 : Fin 6)].state = .fault := by decide +kernel

theorem wit_DrivePeriodProfileMode :
    (profiled 7 true 100 250).power.main = true ∧ (profiled 7 true 100 250).settings.sections[(3 : Fin 6)].mode = .profile ∧
      (profiled 7 true 100 250).cds.supply = .active ∧ (profiled 7 true 100 250).cds.sections[(3 : Fin 6)].state ≠ .fault ∧
      (profiled 7 true 100 250).cds.sections[(3 : Fin 6)].state ≠ .deadtime ∧
      (nextOf (exec (.drivePeriod 10 (Vector.replicate 6 1200)) (profiled 7 true 100 250))).cds.supply = .active ∧
      (nextOf (exec (.drivePeriod 10 (Vector.replicate 6 1200)) (profiled 7 true 100 250))).cds.sections[(3 : Fin 6)].state ≠
        .fault ∧
      (100 ≤ |(profiled 7 true 100 250).dsh[(3 : Fin 6)].held| ∧ (profiled 7 true 100 250).dsh[(3 : Fin 6)].latch = false ∧
        (profiled 7 true 100 250).dsh[(3 : Fin 6)].output.sign = (profiled 7 true 100 250).dsh[(3 : Fin 6)].held.sign) ∧
      ¬100 ≤ |(profiled 7 true 99 250).dsh[(3 : Fin 6)].held| := by decide +kernel

/-- The same section under a hold of R140: the supply asleep. -/
def held : State := { profiled 7 true 100 250 with cds := (supplied .asleep).cds }

theorem wit_DrivePeriodProfileMode_hold :
    held.power.main = true ∧ held.settings.sections[(3 : Fin 6)].mode = .profile ∧ held.cds.supply ≠ .active := by
  decide +kernel

theorem test_hold_stops_profile :
    (nextOf (exec (.drivePeriod 10 (Vector.replicate 6 0)) held)).dsh[3].output = 0 ∧
      (nextOf (exec (.drivePeriod 10 (Vector.replicate 6 0)) held)).dsh[3].running = false := by decide +kernel

/-- R148: at the top of LOW with the divider full, CONTINUOUS returns to the bottom. -/
theorem test_profile_period_wraps :
    (nextOf (exec (.drivePeriod 10 (Vector.replicate 6 1200)) (profiled 7 true 100 250))).dsh[3].index = 0 ∧
      (nextOf (exec (.drivePeriod 10 (Vector.replicate 6 1200)) (profiled 7 true 99 250))).dsh[3].output = 210 := by
  decide +kernel

theorem wit_DrivePeriodSetsCoils : busy.power.main = true ∧ busy.cds.Sound ∧ busy.CoilsSound :=
  ⟨rfl, wit_coils.1, wit_coils.2⟩

/-- Section 8.3: 130% of 1 200 mA is 1 560 mA, the last that is no short; below 600 mA, the third in a row is an open. -/
theorem wit_DrivePeriodFindsCoilFaults :
    busy.power.main = true ∧ busy.cds.Sound ∧ busy.CoilsSound ∧
      ¬(busy.cds.sections[(3 : Fin 6)].setpoint * 13 < 1560 * 10) ∧
      busy.cds.sections[(3 : Fin 6)].setpoint * 13 < 1561 * 10 ∧
      (200 ≤ busy.cds.sections[(3 : Fin 6)].setpoint ∧ 599 * 2 < busy.cds.sections[(3 : Fin 6)].setpoint ∧
        2 ≤ busy.cds.sections[(3 : Fin 6)].opens) ∧ busy.cds.supply ≠ .locked :=
  ⟨rfl, wit_coils.1, wit_coils.2, by decide +kernel, by decide +kernel, by decide +kernel, by decide⟩

theorem test_short_locks_and_open_faults :
    (nextOf (exec (.drivePeriod 10 (Vector.replicate 6 1561)) busy)).cds.lockCause = some .coilShort ∧
      (nextOf (exec (.drivePeriod 10 (Vector.replicate 6 599)) busy)).cds.sections[3].state = .fault := by
  decide +kernel

theorem wit_DriverTripFaultsSection :
    busy.power.main = true ∧ busy.cds.sections[ValveSection.tele.index].active ≠ .none ∧
      0 < busy.cds.sections[ValveSection.tele.index].setpoint ∧ busy.cds.supply ≠ .locked ∧
      busy.cds.sections[ValveSection.slew.index].active = .none ∧
      ({ busy with cds := { busy.cds with supply := .locked } } : State).cds.supply = .locked := by decide +kernel

/-- R163: a trip keeps the coil and the setpoint; R165: it locks the supply and sets the dead time. -/
theorem test_driver_trip :
    (nextOf (exec (.driverTrip 0 .tele) busy)).cds.sections[3].fault =
        some { cause := .short, coil := .a, setpoint := 1200, measured := none } ∧
      (nextOf (exec (.driverTrip 0 .tele) busy)).cds.lockCause = some .coilShort := by decide +kernel

theorem wit_SupplyTimersMoveSupply :
    (supplied .waking).power.main = true ∧ (supplied .waking).cds.supply = .waking ∧
      (supplied .waking).cds.settleDue = some 100 ∧ 100 ≤ (supplied .waking).now + 100 ∧
      (supplied .waking).now + 99 < 100 ∧ (supplied .active).cds.supply = .active ∧
      (supplied .active).cds.idleDue = some 1000 ∧ 1000 ≤ (supplied .active).now + 1000 ∧
      (supplied .active).now + 999 < 1000 ∧ (supplied .asleep).cds.supply ≠ .waking ∧
      (supplied .asleep).cds.supply ≠ .active := by decide +kernel

theorem test_supply_timers :
    (nextOf (exec (.supplySettleExpiry 100) (supplied .waking))).cds.idleDue = some 30100 ∧
      (nextOf (exec (.idleTimerExpiry 1000) (supplied .active))).cds.supply = .asleep := by decide +kernel

/-- R172: the coil record of a drive period shows the times left. -/
theorem test_times_left :
    (nextOf (exec (.drivePeriod 10 (Vector.replicate 6 0)) (supplied .waking))).coilRecord.settleLeft = some 90 ∧
      (nextOf (exec (.drivePeriod 10 (Vector.replicate 6 0)) (supplied .active))).coilRecord.idleLeft = some 990 := by
  decide +kernel

/-! ### Witnesses: requests of the shaper, the coil driver and the engine -/

theorem wit_SectionConfigWritesSettings (kind : Byte) (fields : List Byte) :
    (ask kind fields busy).asked kind 7#8 fields [] ∧ (ask kind fields busy).settings.Sound :=
  ⟨wit_asked _ _ _, wit_settings⟩

/-- The fields of a Section config that carries the section and the start index alone. -/
def startIndexFields (sec index : Byte) : List Byte := [sec, 0x00#8, 0x80#8, index]

theorem wit_SectionConfigWritesSettings_fields :
    (decodeAll readSectionConfig (startIndexFields 6#8 0#8)).any (fun r => 5 < r.sec) = true ∧
      (decodeAll readSectionConfig (startIndexFields 5#8 15#8)).map
          (fun r => (r.sec, r.startIndex, r.mode, r.iMax, r.settleTime)) = some (5, some 15, none, none, none) ∧
      ({ defaultSection 5 with startIndex := 15 } : SectionSettings).Sound ∧
      ¬({ defaultSection 5 with startIndex := 16 } : SectionSettings).Sound ∧
      (inRange 50 500 150 ∧ inRange 1 600 30 ∧ inRange 20 500 100) ∧
      busy.dsh[(5 : Fin 6)].record.output = 0 ∧ busy.dsh[(5 : Fin 6)].record.running = false ∧
      (nextOf (exec (.drivePeriod 10 (Vector.replicate 6 1200)) busy)).dsh[(3 : Fin 6)].record.output ≠ 0 := by
  refine ⟨?_, ?_, ?_, ?_, ?_, ?_, ?_, ?_⟩ <;> decide +kernel

theorem test_start_index_refused_while_moving :
    (nextOf (exec (.sectionConfig 0) (ask 0x11#8 (startIndexFields 3#8 15#8)
      (nextOf (exec (.drivePeriod 10 (Vector.replicate 6 1200)) busy))))).clp.outbound[7]? =
        some (.reply 0x11#8 7#8 .state .none) := by decide +kernel

/-- The fields of a Profile write with sixteen equal entries. -/
def profileFields (table : Byte) (entry : Nat) : List Byte := [table, 1#8] ++ (List.replicate 16 (natBytes 2 entry)).flatten

theorem wit_ProfileWriteReplacesTable :
    (ask 0x12#8 (profileFields 3#8 1000) busy).asked 0x12#8 7#8 (profileFields 3#8 1000) [] ∧
      decodeAll readProfile (profileFields 3#8 1000) = some { table := 3, entries := some (List.replicate 16 1000) } ∧
      decodeAll readProfile (profileFields 3#8 1001) = some { table := 3, entries := some (List.replicate 16 1001) } ∧
      decodeAll readProfile [4#8, 0#8] = some { table := 4, entries := none } ∧
      decodeAll readProfile [1#8, 0#8] = some { table := 1, entries := none } ∧
      (nextOf (exec (.drivePeriod 10 (Vector.replicate 6 1200)) (profiled 7 true 100 250))).dsh[(3 : Fin 6)].record.mode =
        .profile ∧
      (nextOf (exec (.drivePeriod 10 (Vector.replicate 6 1200)) (profiled 7 true 100 250))).dsh[(3 : Fin 6)].record.running =
        true :=
  ⟨wit_asked _ _ _, by decide +kernel, by decide +kernel, by decide, by decide, by decide +kernel, by decide +kernel⟩

/-- A locked supply with a short in ROTATE, or without one. -/
def shorted (cause : FaultCause) : State :=
  { supplied .locked with
    cds :=
      { (supplied .locked).cds with
        sections := (supplied .locked).cds.sections.set 4
          { someCds.sections[4] with fault := some { cause := cause, coil := .a, setpoint := 813, measured := none } } } }

theorem wit_ReleaseUnlocksSupply :
    (ask 0x14#8 [] (shorted .short)).asked 0x14#8 7#8 [] [] ∧ (ask 0x14#8 [] (shorted .short)).cds.supply = .locked ∧
      (shorted .short).cds.sections[(4 : Fin 6)].state = .fault ∧
      (shorted .short).cds.sections[(4 : Fin 6)].fault =
        some { cause := .short, coil := .a, setpoint := 813, measured := none } ∧
      anyShorted (shorted .openCoil).cds = false ∧ (ask 0x14#8 [] busy).cds.supply ≠ .locked :=
  ⟨wit_asked _ _ _, rfl, by decide +kernel, by decide +kernel, by decide +kernel, nofun⟩

theorem test_release :
    (nextOf (exec (.release 0) (ask 0x14#8 [] (shorted .openCoil)))).cds.supply = .asleep ∧
      (nextOf (exec (.release 0) (ask 0x14#8 [] (shorted .short)))).cds.supply = .locked := by decide +kernel

theorem wit_FaultClearReleasesSections (selector : Byte) :
    (ask 0x15#8 [selector] busy).asked 0x15#8 7#8 [selector] [] ∧ 6 < (7#8 : Byte).toNat ∧ (6#8 : Byte).toNat ≤ 6 ∧
      busy.cds.sections[(4 : Fin 6)].state = .fault ∧ busy.cds.sections[(3 : Fin 6)].state ≠ .fault ∧
      (3#8 : Byte).toNat ≤ 6 := ⟨wit_asked _ _ _, by decide, by decide, by decide +kernel, by decide +kernel, by decide⟩

theorem test_fault_clear :
    (nextOf (exec (.faultClear 0) (ask 0x15#8 [6#8] busy))).cds.sections[4].state = .blocked ∧
      (nextOf (exec (.faultClear 0) (ask 0x15#8 [6#8] busy))).dsh[3].latch = false := by decide +kernel

/-- The engine in a state, with this calibration record. -/
def engineIn (st : EngineState) (record : CalRecord) : State :=
  { busy with wce := { busy.wce with state := st }, settings := { someSettings with calRecord := record } }

theorem wit_ArmAndDisarm (st : EngineState) (record : CalRecord) :
    (ask 0x20#8 [] (engineIn st record)).asked 0x20#8 7#8 [] [] ∧
      (ask 0x21#8 [] (engineIn st record)).asked 0x21#8 7#8 [] [] ∧
      (ask 0x20#8 [] (engineIn st record)).wce.state = st ∧
      (ask 0x20#8 [] (engineIn .gripped someSettings.calRecord)).calValid = true ∧
      (ask 0x20#8 [] (engineIn .gripped defaultCalRecord)).calValid = false :=
  ⟨wit_asked _ _ _, wit_asked _ _ _, rfl, by decide +kernel, by decide +kernel⟩

theorem test_arm :
    (nextOf (exec (.arm 0) (ask 0x20#8 [] (engineIn .gripped someSettings.calRecord)))).wce.state = .armed ∧
      (nextOf (exec (.arm 0) (ask 0x20#8 [] (engineIn .gripped defaultCalRecord)))).wce.state = .gripped := by
  decide +kernel

theorem test_disarm_ends_capture :
    (nextOf (exec (.disarm 0) (ask 0x21#8 [] busy))).wce.held.map (fun p => (p.outcome, p.spread)) =
      some (.unweighed .disarmed, some 0) := by
  decide +kernel

/-- The fields of a Capture config that carries the grip threshold alone. -/
def gripFields (x : Nat) : List Byte := [0x00#8, 0x01#8] ++ natBytes 2 x

theorem wit_CaptureConfigWritesSettings (fields : List Byte) (st : EngineState) :
    (ask 0x22#8 fields (engineIn st defaultCalRecord)).asked 0x22#8 7#8 fields [] ∧
      (decodeAll readCapture (gripFields 50)).bind CaptureRequest.gripThreshold = some 50 ∧
      (decodeAll readCapture (gripFields 49)).bind CaptureRequest.gripThreshold = some 49 ∧
      (decodeAll readCapture [0x00#8, 0x00#8]).isSome = true ∧
      someSettings.capture.Sound ∧ ({ defaultCapture with gripThreshold := 50 } : CaptureSettings).Sound ∧
      ¬({ defaultCapture with gripThreshold := 49 } : CaptureSettings).Sound ∧
      gripFields 50 ≠ [0x00#8, 0x00#8] ∧ (ask 0x22#8 (gripFields 50) busy).wce.state = .collecting ∧
      (ask 0x22#8 (gripFields 50) (engineIn .idle defaultCalRecord)).wlc.tare.state ≠ .running :=
  ⟨wit_asked _ _ _, by decide, by decide, by decide, by decide +kernel, by decide, by decide, by decide, rfl, nofun⟩

/-! ### Witnesses: the tally -/

theorem wit_TallyReadsAnswer (kind : Byte) (fields : List Byte) (s : State) :
    (ask kind fields s).asked kind 7#8 fields [] ∧ decodeAll readOptU8 [1#8, 16#8] = some (some 16) ∧
      decodeAll readOptU8 [1#8, 15#8] = some (some 15) ∧ decodeAll readOptU8 [0#8] = some none ∧
      decodeAll readReadLifts [0#8, 1#8, 9#8] = some { from_ := 1, count := 9 } ∧
      decodeAll readReadLifts [0xFF#8, 0xFF#8, 8#8] = some { from_ := 65535, count := 8 } ∧
      decodeAll readReadTotals [0#8, 15#8, 2#8] = some { selector := .current, first := 15, count := 2 } ∧
      decodeAll readReadTotals [0#8, 15#8, 1#8] = some { selector := .current, first := 15, count := 1 } ∧
      decodeAll readReadTotals [1#8, 14#8, 2#8] = some { selector := .closed, first := 14, count := 2 } ∧
      busy.lt.closed = none ∧
      ({ someTrip with closed := some busy.summary } : Trip).closed = some busy.summary :=
  ⟨wit_asked _ _ _, by decide, by decide, by decide, by decide, by decide, by decide, by decide, by decide, rfl, rfl⟩

/-- The part with this trip. -/
def tripState (t : Trip) : State := { busy with lt := t }

/-- A trip whose only total stands at its greatest value. -/
def fullTrip : Trip :=
  { coldTrip with
    table := coldTrip.table.set 15
      { loads := { count := 4294967295, weighed := 0, mass := 4294967295, unlisted := 4294967295,
                   unlistedMass := 4294967295 }
        unloads := emptyTotals }
    estimate := 4294967295 }

/-- The same with one lift of 0 kg listed. -/
def fullTripListed : Trip :=
  { coldTrip with
    counter := 65535
    lifts := [{ someLift with mass := some 0, correction := none }]
    table := coldTrip.table.set 15
      { loads := { count := 4294967295, weighed := 1, mass := 4294967295, unlisted := 4294967294,
                   unlistedMass := 4294967295 }
        unloads := emptyTotals }
    estimate := 4294967295 }

/-- A lift of 0 kg listed in entry 0, and entry 15 full. -/
def moveTrip : Trip :=
  { coldTrip with
    counter := 1
    lifts := [{ someLift with number := 1, assortment := 0, mass := none, correction := none }]
    table := fullTrip.table.set 0 { loads := { emptyTotals with count := 1 }, unloads := emptyTotals }
    estimate := 4294967295 }

theorem wit_UndoCorrectReassign_sound : someTrip.Sound ∧ fullTripListed.Sound ∧ moveTrip.Sound ∧ coldTrip.Sound := by
  refine ⟨⟨?_, ?_, ?_, ?_, ?_, ?_⟩, ⟨?_, ?_, ?_, ?_, ?_, ?_⟩, ⟨?_, ?_, ?_, ?_, ?_, ?_⟩, ⟨?_, ?_, ?_, ?_, ?_, ?_⟩⟩ <;>
    decide +kernel

/-- A trip with room lists a filing; a full list does not; a full total turns it away. -/
theorem wit_ReleaseTestClosesGrip_file :
    coldTrip.Sound ∧ (coldTrip.counter < 65535 ∧ coldTrip.lifts.length < 96) ∧
      (coldTrip.table[(15 : Fin 16)].dir .load).count + 1 ≤ 4294967295 ∧ moveTrip.Sound ∧
      4294967295 < (moveTrip.table[(15 : Fin 16)].dir .load).count + 1 ∧ someTrip.Sound ∧
      ¬(someTrip.counter < 65535 ∧ someTrip.lifts.length < 96) ∧
      (someTrip.table[(15 : Fin 16)].dir .load).mass + 4095 ≤ 4294967295 :=
  ⟨wit_UndoCorrectReassign_sound.2.2.2, by decide, by decide, wit_UndoCorrectReassign_sound.2.2.1, by decide +kernel,
    wit_UndoCorrectReassign_sound.1, by decide +kernel, by decide +kernel⟩

theorem test_file_lift :
    (fileLift .load 15 (some 4095) noFlags (tripState coldTrip)).1.lt.counter = 1 ∧
      (fileLift .load 15 none noFlags (tripState moveTrip)).2 = none := by decide +kernel

theorem wit_UndoCorrectReassign (kind : Byte) (fields : List Byte) (t : Trip) :
    (ask kind fields (tripState t)).asked kind 7#8 fields [] ∧ (ask kind fields (tripState t)).lt = t ∧
      coldTrip.lifts = [] ∧ someTrip.lifts = [] ++ [someLift] ∧ someTrip.lastUnlisted = false ∧
      ({ someTrip with lastUnlisted := true } : Trip).lifts ≠ [] :=
  ⟨wit_asked _ _ _, rfl, rfl, rfl, rfl, nofun⟩

theorem wit_UndoCorrectReassign_correct :
    decodeAll readCorrect [0xFF#8, 0xFF#8, 0x01#8, 0xF4#8] = some { number := 65535, correction := 500 } ∧
      decodeAll readCorrect [0xFF#8, 0xFF#8, 0x01#8, 0xF5#8] = some { number := 65535, correction := 501 } ∧
      decodeAll readCorrect [0x00#8, 0x01#8, 0xFE#8, 0x0C#8] = some { number := 1, correction := -500 } ∧
      (∀ x ∈ someTrip.lifts, x.number ≠ 1) ∧ moveTrip.lifts.map (fun x => (x.number, x.mass)) = [(1, none)] ∧
      4294967295 <
        (fullTripListed.table[(15 : Fin 16)].dir .load).mass + 500 - 0 ∧
      (someTrip.table[(15 : Fin 16)].dir .load).mass + 4595 - 3595 ≤ 4294967295 := by decide +kernel

theorem wit_UndoCorrectReassign_reassign :
    decodeAll readReassign [0x00#8, 0x01#8, 16#8] = some { number := 1, assortment := 16 } ∧
      decodeAll readReassign [0x00#8, 0x01#8, 15#8] = some { number := 1, assortment := 15 } ∧
      decodeAll readReassign [0xFF#8, 0xFF#8, 0#8] = some { number := 65535, assortment := 0 } ∧
      4294967295 < (moveTrip.table[(15 : Fin 16)].dir .load).count + 1 ∧
      (someTrip.table[(0 : Fin 16)].dir .load).count + 1 ≤ 4294967295 ∧ someLift.assortment ≠ 0 := by decide +kernel

theorem test_undo_last :
    (nextOf (exec (.undoLast 0) (ask 0x33#8 [] busy))).lt.estimate = 0 ∧
      (nextOf (exec (.undoLast 0) (ask 0x33#8 [] busy))).lt.lifts = [] := by decide +kernel

theorem test_correct :
    (nextOf (exec (.correct 0) (ask 0x34#8 [0xFF#8, 0xFF#8, 0x01#8, 0xF4#8] busy))).lt.estimate = 4595 := by
  decide +kernel

theorem test_reassign :
    (nextOf (exec (.reassign 0) (ask 0x35#8 [0xFF#8, 0xFF#8, 0#8] busy))).lt.table[0].loads.mass = 3595 := by
  decide +kernel

theorem wit_FilingsTripCloseAndPayload (kind : Byte) (fields : List Byte) (t : Trip) :
    (ask kind fields (tripState t)).asked kind 7#8 fields [] ∧ (ask kind fields (tripState t)).lt = t :=
  ⟨wit_asked _ _ _, rfl⟩

theorem wit_FilingsTripCloseAndPayload_fields :
    decodeAll readManual [0#8, 16#8, 0#8] = some { direction := .load, assortment := 16, mass := none } ∧
      decodeAll readManual [0#8, 15#8, 1#8, 0x10#8, 0x00#8] =
        some { direction := .load, assortment := 15, mass := some 4096 } ∧
      decodeAll readManual [0#8, 15#8, 1#8, 0x0F#8, 0xFF#8] =
        some { direction := .load, assortment := 15, mass := some 4095 } ∧
      4294967295 < (fullTripListed.table[(15 : Fin 16)].dir .load).count + 1 ∧
      (someTrip.table[(15 : Fin 16)].dir .load).mass + 4095 ≤ 4294967295 ∧
      (coldTrip.counter < 65535 ∧ coldTrip.lifts.length < 96) ∧ ¬someTrip.counter < 65535 ∧
      decodeAll readOptU16 [0#8] = some none ∧ decodeAll readOptU16 [1#8, 0x03#8, 0xE7#8] = some (some 999) ∧
      decodeAll readOptU16 [1#8, 0x03#8, 0xE8#8] = some (some 1000) ∧
      decodeAll readOptU16 [1#8, 0x75#8, 0x30#8] = some (some 30000) ∧
      decodeAll readOptU16 [1#8, 0x75#8, 0x31#8] = some (some 30001) := by decide +kernel

theorem test_manual_lift_without_numbers :
    (nextOf (exec (.manualLift 0) (ask 0x36#8 [0#8, 0#8, 1#8, 0x0F#8, 0xFF#8] busy))).lt.table[0].loads.unlisted = 1 ∧
      (nextOf (exec (.manualLift 0) (ask 0x36#8 [0#8, 0#8, 1#8, 0x0F#8, 0xFF#8] busy))).lt.estimate = 7690 := by
  decide +kernel

theorem test_trip_close :
    (nextOf (exec (.tripClose 0) (ask 0x37#8 [] busy))).lt.number = 2 ∧
      (nextOf (exec (.tripClose 0) (ask 0x37#8 [] busy))).lt.closed.map ClosedTrip.estimate = some 3595 := by
  decide +kernel

/-! ### Witnesses: zones and settings -/

theorem wit_ZoneRequestsWriteZones (kind : Byte) (fields : List Byte) :
    (ask kind fields busy).asked kind 7#8 fields [] ∧
      (decodeAll readZoneWrite [8#8, 0#8]).map ZoneWriteRequest.zone = some 8 ∧
      (decodeAll readZoneWrite [7#8, 0x80#8, 0x01#8, 0x2C#8]).map (fun r => (r.zone, r.guard)) = some (7, some 300) ∧
      (decodeAll readZoneWrite [7#8, 0x80#8, 0x01#8, 0x2D#8]).bind ZoneWriteRequest.guard = some 301 ∧
      (decodeAll readZoneWrite [0#8, 0#8]).map ZoneWriteRequest.zone = some 0 ∧
      busy.settings.zones[(0 : Fin 8)].enable = true ∧ busy.settings.zones[(7 : Fin 8)].enable = false ∧
      decodeAll readZoneEnable [8#8, 0#8] = some { zone := 8, enable := true } ∧
      decodeAll readZoneEnable [7#8, 0#8] = some { zone := 7, enable := true } ∧
      decodeAll readZoneEnable [0#8, 1#8] = some { zone := 0, enable := false } ∧
      ({ defaultZone with slewStart := 1, slewStop := 0 } : Zone).slewStop <
        ({ defaultZone with slewStart := 1, slewStop := 0 } : Zone).slewStart ∧
      7 < (8#8 : Byte).toNat ∧ (7#8 : Byte).toNat = (7 : Fin 8).val :=
  ⟨wit_asked _ _ _, by decide, by decide, by decide, by decide, by decide +kernel, by decide +kernel, by decide, by decide,
    by decide, by decide, by decide, rfl⟩

/-- The part after a scan that puts the tip at this slew, in reach of zone 0, which stands at −250..+250. -/
def zoneRead (slew : Int) : State :=
  { busy with
    ssu := { busy.ssu with record := recordAt slew 3000 0 }
    evm := evaluateZones (recordAt slew 3000 0) busy.settings.zones false }

theorem wit_ZoneRequestsWriteZones_read :
    (zoneRead (-251)).settings.zones[(0 : Fin 8)].kind = .stop ∧
      (zoneRead (-251)).evm.zones[(0 : Fin 8)].armed = true ∧
      (zoneRead (-251)).evm.zones[(0 : Fin 8)].membership = .outZone ∧
      (zoneRead (-251)).evm.zones[(0 : Fin 8)].bounds = some (-250, 250) ∧
      (zoneRead (-251)).ssu.record.slew < -250 ∧ ((1 : Nat) : Int) = -250 - (zoneRead (-251)).ssu.record.slew ∧
      250 < (zoneRead 251).ssu.record.slew ∧ (zoneRead 251).evm.zones[(0 : Fin 8)].membership = .outZone ∧
      (zoneRead 250).evm.zones[(0 : Fin 8)].membership ≠ .outZone := by decide +kernel

/-- The first zone in order, evaluated OUT although its old bounds hold the tip slew (log entry 44). -/
def reordered : State :=
  { zoneRead 0 with
    evm :=
      { busy.evm with
        zones := busy.evm.zones.set 0 { bounds := some (-250, 250), membership := .outZone, armed := true } } }

theorem wit_ZoneRequestsWriteZones_neither :
    reordered.settings.zones[(0 : Fin 8)].kind = .stop ∧ reordered.evm.zones[(0 : Fin 8)].armed = true ∧
      reordered.evm.zones[(0 : Fin 8)].membership = .outZone ∧
      reordered.settings.zones[(0 : Fin 8)].slewStart ≤ reordered.settings.zones[(0 : Fin 8)].slewStop ∧
      reordered.evm.zones[(0 : Fin 8)].bounds = some (-250, 250) ∧ -250 ≤ reordered.ssu.record.slew ∧
      reordered.ssu.record.slew ≤ 250 := by decide +kernel

theorem test_zone_write_refused_while_enabled :
    (nextOf (exec (.zoneWrite 0) (ask 0x40#8 [0#8, 0x80#8, 0#8, 0#8] busy))).clp.outbound[7]? =
      some (.reply 0x40#8 7#8 .state .none) := by decide +kernel

theorem wit_SettingRequestsWriteSettings (kind : Byte) (fields : List Byte) :
    (ask kind fields busy).asked kind 7#8 fields [] ∧ busy.settings.limiter.Sound ∧
      (decodeAll readLimiter [1#8, 0x03#8, 0xDE#8]).bind LimiterRequest.warnOn = some 990 ∧
      ({ defaultLimiter with warnOn := 990 } : LimiterSettings).Sound ∧
      ¬({ defaultLimiter with warnOn := 990, limitOn := 990 } : LimiterSettings).Sound ∧
      decodeAll readRated [0x01#8, 0x00#8, 0x00#8, 0x0F#8, 0x42#8, 0x3F#8] =
        some (List.replicate 8 none ++ [some 999999]) ∧
      decodeAll readRated [0x00#8, 0x01#8, 0x00#8, 0x00#8, 0x03#8, 0xE7#8] =
        some (some 999 :: List.replicate 8 none) ∧
      decodeAll readChannel [9#8, 0#8] = some { channel := 9, cal := none } ∧
      decodeAll readChannel [8#8, 0#8] = some { channel := 8, cal := none } ∧
      decodeAll readChannel [1#8, 1#8, 0x02#8, 0x00#8, 0x0E#8, 0x00#8, 0xFE#8, 0xD4#8, 0x03#8, 0x20#8] =
        some { channel := 1, cal := some mainCal } ∧
      (mainCal.rawLo < mainCal.rawHi ∧ mainCal.rawHi ≤ 4095 ∧ channelMin 1 ≤ mainCal.valLo ∧
        mainCal.valLo ≤ channelMax 1 ∧ channelMin 1 ≤ mainCal.valHi ∧ mainCal.valHi ≤ channelMax 1) ∧
      ¬channelMin 3 ≤ mainCal.valLo ∧
      decodeAll readGeometry [1#8, 0x03#8, 0xE8#8] = some { pillar := some 1000, mainLen := none, outerLen := none } ∧
      decodeAll readGeometry [1#8, 0x03#8, 0xE9#8] = some { pillar := some 1001, mainLen := none, outerLen := none } :=
  ⟨wit_asked _ _ _, by decide +kernel, by decide, by decide, by decide, by decide +kernel, by decide +kernel, by decide,
    by decide, by decide +kernel, by decide, by decide, by decide, by decide⟩

/-! ### Witnesses: requests of the weigh link, store and supplies -/

/-- A part with no head. -/
def headless : State := { busy with wlc := restartWlc 0 false, wce := restartWce false }

/-- A running tare. -/
def taring : State :=
  { busy with
    wlc := { busy.wlc with tare := { state := .running, accepted := 31, rejected := 63, sum := 94251 } }
    wce := restartWce false }

theorem wit_LinkRequestsAct (kind : Byte) (fields : List Byte) (s : State) :
    (ask kind fields s).asked kind 7#8 fields [] ∧ headless.wlc.state = .absent ∧ headless.wlc.detect = false ∧
      busy.wlc.state ≠ .absent ∧
      decodeAll readCalibrate [1#8, 0x04#8, 0x4D#8] = some { trim := some 1101, autoPower := none } ∧
      decodeAll readCalibrate [1#8, 0x04#8, 0x4C#8] = some { trim := some 1100, autoPower := none } ∧
      decodeAll readCalibrate [2#8, 0#8] = some { trim := none, autoPower := some true } ∧
      busy.wce.state = .collecting ∧ taring.wlc.tare.state = .running ∧ taring.wce.state = .idle ∧
      headless.wlc.tare.state ≠ .running ∧ headless.wlc.state ≠ .running ∧ busy.wlc.tare.state ≠ .running ∧
      busy.wlc.state = .running ∧ ({ busy with wce := restartWce false } : State).wce.state = .idle ∧
      (∃ h, busy.wlc.identity = some h ∧ busy.settings.calRecord.bound = some h.serial) ∧
      ¬∃ h, headless.wlc.identity = some h :=
  ⟨wit_asked _ _ _, rfl, rfl, nofun, by decide, by decide, by decide, rfl, rfl, rfl, nofun, nofun, nofun, rfl, rfl,
    ⟨someHead, rfl, rfl⟩, nofun⟩

theorem test_link_reset_ends_capture :
    (nextOf (exec (.linkReset 0) (ask 0x51#8 [] busy))).wce.held.map PendingLift.outcome = some (.unweighed .link) ∧
      (nextOf (exec (.linkReset 0) (ask 0x51#8 [] busy))).wlc.activity = .offTime 20 := by decide +kernel

/-- A write in progress, due at 40. -/
def writing : State :=
  { busy with
    ssr :=
      { someSsr with
        slots := someSsr.slots.set 0 none
        store := .writing
        write := some { image := someSettings, sequence := 1, target := 0, due := 40 } } }

theorem wit_StoreAndSuppliesAct (fields : List Byte) (s : State) :
    (ask 0x60#8 fields s).asked 0x60#8 7#8 fields [] ∧ (ask 0x61#8 fields s).asked 0x61#8 7#8 fields [] ∧
      writing.ssr.store = .writing ∧
      writing.ssr.write = some { image := someSettings, sequence := 1, target := 0, due := 40 } ∧
      busy.ssr.store ≠ .writing ∧ busy.ssr.current = some 1 ∧
      busy.ssr.slots[(1 : Fin 2)] = some { image := someSettings, sequence := 0 } ∧ State.reset.ssr.current = none ∧
      writing.power.main = true ∧ 40 ≤ writing.now + 40 ∧ writing.now + 39 < 40 :=
  ⟨wit_asked _ _ _, wit_asked _ _ _, rfl, rfl, nofun, rfl, rfl, rfl, rfl, by decide, by decide⟩

theorem test_store_and_completion :
    (nextOf (exec (.storeSettings 0) (ask 0x60#8 [] busy))).ssr.write.map (fun w => (w.sequence, w.target.val, w.due)) =
        some (1, 0, 40) ∧
      (nextOf (exec (.storeWriteCompletion 40 true) writing)).ssr.current = some 0 := by decide +kernel

/-- R197: DONE is held through the loss of the main supply, and a write in progress is ended by it. -/
theorem test_main_loss_holds_done :
    (nextOf (exec (.mainSupplyLoss 0) { busy with ssr := { someSsr with store := .done } })).ssr.store = .done ∧
      (nextOf (exec (.mainSupplyLoss 0) writing)).ssr.store = .idle := by decide +kernel

/-- An unpowered part, its retained memory good or lost. -/
def unpowered (good : Bool) : State :=
  { busy with power := { main := false, standby := good }, ssr := { someSsr with retainedGood := good } }

theorem wit_RestartSetsBlocks (k : RestartKind) :
    State.reset.power.main = true ∧ State.reset.clp.restart = none ∧ (unpowered true).power.main = false ∧
      (restarting false []).clp.restart = some { kind := .cold, replySent := false } ∧
      (restarting true []).power.main = true ∧
      ({ restarting true [] with clp := { resetClp with restart := some { kind := k, replySent := true } } } :
          State).clp.restart = some { kind := k, replySent := true } := ⟨rfl, rfl, rfl, rfl, rfl, rfl⟩

theorem test_restart_kinds :
    (nextOf (exec (.restart 0) (unpowered true))).lt = someTrip ∧
      (nextOf (exec (.restart 0) (unpowered false))).lt = coldTrip ∧
      (nextOf (exec (.restart 0) (unpowered false))).settings = someSettings := by decide +kernel

/-- The first supply of a part with both slots bad is the reset (R198). -/
theorem test_first_supply_is_reset :
    nextOf (exec (.restart 0)
      { State.reset with
        power := { main := false, standby := true }
        ssr := { resetSsr with retainedGood := false } }) = State.reset := by decide +kernel

/-! ### Witnesses: the scan and the weigh link's events -/

theorem wit_ScanMovesSensors :
    busy.power.main = true ∧ (80 ≤ 80 ∧ 4015 ≤ 4015) ∧ (79 < 80 ∨ 4015 < 4016) ∧
      [busy.ssu.channels[(0 : Fin 9)].state, ({ busy.ssu.channels[(0 : Fin 9)] with state := .hold } : ChannelUnit).state] =
        [.good, .hold] := by decide +kernel

/-- The four rows of the quadrant table of R9 at their ends. -/
theorem wit_ScanMovesSensors_angles :
    ∀ x ∈ [((0 : Int), 0), (900, 900), (901, 901), (1800, 1800), (1801, 1801), (2700, 2700), (2701, 2701), (-1, 3599),
          (-1200, 2400)],
      x.2 = x.1 - 3600 * (x.1 / 3600) := by decide

theorem wit_ScanEvaluatesZones : busy.power.main = true ∧ busy.settings.Sound := ⟨rfl, wit_settings⟩

/-- A channel that is LOST, good at nine scans. -/
def lostChannel : ChannelUnit := { state := .lost, value := 5, bad := 6, good := 9 }

/-- R5 at its boundaries: the sixth bad scan and the tenth good one. -/
theorem test_channel_boundaries :
    (moveChannel false 0 { state := .hold, value := 5, bad := 5, good := 0 }).state = .lost ∧
      (moveChannel false 0 { state := .hold, value := 5, bad := 4, good := 0 }).state = .hold ∧
      (moveChannel true 7 lostChannel).value = 7 ∧ (moveChannel true 7 { lostChannel with good := 8 }).value = 5 := by
  decide

theorem wit_ScanMovesLimiter :
    busy.power.main = true ∧ (∃ x, busy.wlc.latest = some x ∧ x.linkForce = true) ∧
      ¬∃ x, headless.wlc.latest = some x ∧ x.linkForce = true :=
  ⟨rfl, ⟨_, rfl, rfl⟩, nofun⟩

/-- A scan of mid-range samples on the running part: with eight forces of 40 000 N the limiter goes to LIMIT. -/
theorem test_scan_limits :
    (nextOf (exec (.scan 10 (Vector.replicate 9 2048)) busy)).mlm.state = .limit .moment ∧
      (nextOf (exec (.scan 10 (Vector.replicate 9 79)) busy)).ssu.channels[0].state = .hold := by decide +kernel

/-- The link in the middle of an activity. -/
def linkIn (st : LinkState) (a : LinkActivity) : State := { busy with wlc := { busy.wlc with state := st, activity := a } }

/-- The detect line changed and its debounce timer runs. -/
def debouncing (detect : Bool) : State :=
  { busy with wlc := { busy.wlc with detect := detect, detectLine := !detect, debounceDue := some 200 } }

theorem wit_LinkTimersMoveLink :
    busy.power.main = true ∧ (debouncing true).wlc.debounceDue = some 200 ∧ 200 ≤ 0 + 200 ∧ 0 + 199 < 200 ∧
      (debouncing true).wlc.detect = true ∧ (debouncing false).wlc.detect = false ∧
      (linkIn .powering (.offTime 20)).wlc.activity = .offTime 20 ∧
      (linkIn .powering (.settling 50)).wlc.activity = .settling 50 ∧
      (linkIn .identifying (.retryWait 10)).wlc.activity = .retryWait 10 ∧
      (linkIn .running (.pollWait 10)).wlc.activity = .pollWait 10 ∧
      (linkIn .recovering (.lineRelease 1)).wlc.activity = .lineRelease 1 ∧
      (linkIn .recovering (.pulsing 9 1)).wlc.activity = .pulsing 9 1 ∧ (linkIn .recovering (.pulsing 9 1)).now + 1 = 1 := by
  decide +kernel

theorem test_nine_pulses :
    (nextOf (exec (.clockPulseEnd 1 false) (linkIn .recovering (.pulsing 9 1)))).wlc.cause = .stuckData ∧
      (nextOf (exec (.clockPulseEnd 1 false) (linkIn .recovering (.pulsing 8 1)))).wlc.activity = .pulsing 9 2 := by
  decide +kernel

/-- R33: a data line that reads high after a pulse is freed; the end marker goes out and the head is identified again. -/
theorem test_end_marker :
    (nextOf (exec (.clockPulseEnd 1 true) (linkIn .recovering (.pulsing 9 1)))).wlc.sent =
        [.endMarker, .identityRequest] ∧
      (nextOf (exec (.clockPulseEnd 1 true) (linkIn .recovering (.pulsing 9 1)))).wlc.state = .identifying := by
  decide +kernel

/-- The identity record of a head of serial 2. -/
def answer2 : IdentityAnswer :=
  { serial := 2#32, rating := 30000#16, zero := 2150#16, scale := 16383#16
    check := crc8 (bytesOf32 2#32 ++ bytesOf16 30000#16 ++ bytesOf16 2150#16 ++ bytesOf16 16383#16) }

/-- An identity read begun at 0, after `n` failed ones. -/
def reading (n : Nat) : State :=
  { linkIn .identifying (.reading 0) with
    wlc := { (linkIn .identifying (.reading 0)).wlc with failedReads := n, identity := none } }

theorem wit_IdentityReadIdentifiesHead :
    (reading 2).power.main = true ∧ (reading 2).wlc.activity = .reading 0 ∧ 3 ≤ 0 + 3 ∧
      crc8 (bytesOf32 answer2.serial ++ bytesOf16 answer2.rating ++ bytesOf16 answer2.zero ++ bytesOf16 answer2.scale) =
        answer2.check ∧
      10000 ≤ answer2.rating.toNat ∧ answer2.rating.toNat ≤ 60000 ∧ 1 ≤ answer2.scale.toNat ∧
      answer2.scale.toNat ≤ 16383 ∧ (reading 1).wlc.failedReads < 2 ∧ 2 ≤ (reading 2).wlc.failedReads ∧ 2 < 0 + 3 := by
  decide +kernel

theorem wit_IdentityReadIdentifiesHead_idle (began : Nat) : busy.wlc.activity ≠ .reading began := nofun

theorem test_identity_unbinds_record :
    (nextOf (exec (.identityReadEnd 3 (some answer2)) (reading 2))).settings.calRecord.bound = none ∧
      (nextOf (exec (.identityReadEnd 3 (some answer2)) (reading 2))).wlc.state = .running ∧
      (nextOf (exec (.identityReadEnd 3 none) (reading 2))).wlc.cause = .noIdentity := by decide +kernel

/-- A sample answer of count 41 210, swing 900 and this status, its check good. -/
def sampleOf (status : Byte) : SampleAnswer :=
  { count := 41210#16, swing := 900#16, status := status
    check := crc8 (bytesOf16 41210#16 ++ bytesOf16 900#16 ++ [status]) }

theorem wit_PollCompletionPublishesSample :
    busy.power.main = true ∧ busy.wlc.activity = .polling 65535 0 ∧ busy.wlc.identity = some someHead ∧ 3 ≤ 0 + 3 ∧
      2 < 0 + 3 ∧
      crc8 (bytesOf16 (sampleOf 3#8).count ++ bytesOf16 (sampleOf 3#8).swing ++ [(sampleOf 3#8).status]) =
        (sampleOf 3#8).check ∧
      (sampleOf 3#8).swing.toNat ≤ 900 ∧ (sampleOf 3#8).status.toNat ≤ 3 ∧ ¬(sampleOf 4#8).status.toNat ≤ 3 ∧
      roundHalfAway ((((sampleOf 3#8).count.toNat : Int) - someHead.zero) * someHead.scale * busy.trimInForce) 4096000 =
        9514 ∧
      busy.wlc.ring.length ≤ 8 ∧ 3 ≤ busy.wlc.failures + 1 ∧
      2 ≤ (busy.wlc.history.filter fun e => decide (9999 - e < 10000)).length ∧
      (busy.wlc.history.filter fun e => decide (10000 - e < 10000)).length < 2 ∧ busy.wlc.history.length ≤ 2 := by
  decide +kernel

theorem wit_PollCompletionPublishesSample_idle (number began : Nat) :
    headless.power.main = true ∧ headless.wlc.activity ≠ .polling number began := ⟨rfl, nofun⟩

theorem test_third_failure :
    (nextOf (exec (.pollCompletion 9999 none) busy)).wlc.cause = .unstable ∧
      (nextOf (exec (.pollCompletion 10000 none) busy)).wlc.state = .recovering := by decide +kernel

/-- The capture one accepted sample from the end of its budget, with these rejects and limit. -/
def rejecting (rejects : Nat) : State := { busy with wce := { busy.wce with rejects := rejects } }

theorem wit_CaptureTakesSample :
    busy.wce.state = .collecting ∧ headless.wce.state ≠ .collecting ∧
      (goodSample.status = .ok ∧ goodSample.swing ≤ busy.settings.capture.swingLimit ∧ 0 ≤ goodSample.force ∧
        goodSample.force ≤ 40000 ∧ goodSample.clamped = false) ∧
      busy.wce.window.length ≤ 32 ∧ busy.wce.remaining ≤ 1 ∧ (∀ a ∈ busy.wce.window, 0 ≤ a.force) ∧
      busy.wce.extLeft = 0 ∧ ¬({ goodSample with swing := 31 } : GoodSample).swing ≤ busy.settings.capture.swingLimit ∧
      busy.settings.capture.rejectLimit ≤ (rejecting 99).wce.rejects + 1 ∧
      ¬busy.settings.capture.rejectLimit ≤ (rejecting 98).wce.rejects + 1 := by decide +kernel

/-- A window with a spread of 401 N stands above the limit of 400 N, and a sample may be one of several of its budget. -/
theorem wit_CaptureTakesSample_spread :
    busy.settings.capture.spreadLimit < 401 ∧ windowSpread [{ poll := 0, force := 39599 }, { poll := 1, force := 40000 }] =
        some 401 ∧
      0 < ({ busy.wce with extLeft := 1 } : Wce).extLeft ∧ 2 ≤ ({ busy.wce with remaining := 2 } : Wce).remaining := by
  decide

/-- Section 3.6, last row: forces of 40 000 N give 4 079 kg gross; the tare of 2 000 kg leaves 2 079. -/
theorem test_capture_weighs :
    (engineSample { poll := 1, outcome := .good goodSample, forceUsable := true, linkForce := true } busy).wce.held.map
        PendingLift.net = some (some 2079) := by decide +kernel

theorem wit_TareTakesSample :
    taring.wlc.tare.state = .running ∧ headless.wlc.tare.state ≠ .running ∧ ¬taring.wlc.tare.accepted < 31 ∧
      ¬taring.wlc.tare.rejected < 63 ∧
      (9514 : Int) =
        roundHalfAway (((goodSample.count : Int) - someHead.zero) * someHead.scale * taring.settings.calRecord.trim)
          4096000 ∧
      goodSample.status = .ok ∧ goodSample.swing ≤ taring.settings.capture.swingLimit ∧ 9514 ≤ 40000 := by decide +kernel

/-- Section 2.8: the 32nd accepted sample ends the tare; a 64th rejected one fails it. -/
theorem test_tare_ends :
    (tareSample someHead (.good { goodSample with count := 15704 })
        { taring with
          settings :=
            { someSettings with
              calRecord := { someSettings.calRecord with trim := 1012 } } }).settings.calRecord.tare = 310 ∧
      (tareSample someHead .missing taring).wlc.tare.state = .failed .unsteady := by decide +kernel

end Sys2Proof.Machine.Tests
end

section
/-! ### What a scan does -/

namespace Sys2Proof.Machine

open Sys2Proof

/-! #### Channels -/

/-- What is sound of one channel with this range: its value lies in it and its counts fit its state (R5, R6). -/
structure ChannelUnit.Fits (lo hi : Int) (u : ChannelUnit) : Prop where
  value_mem : inRangeInt lo hi u.value
  bad_of_good : u.state = .good → u.bad = 0
  bad_of_hold : u.state = .hold → 1 ≤ u.bad ∧ u.bad ≤ 5
  counts_of_lost : u.state = .lost → u.bad = 6 ∧ u.good ≤ 9

theorem channelMin_le_channelMax : ∀ n : Fin 9, channelMin n ≤ channelMax n := by decide

/-- A calibrated value is the rounded line through the two points, cut to the range (R3). -/
theorem calibrate_eq {lo hi : Int} (h : lo ≤ hi) (cal : ChannelCal) (raw : Nat) :
    calibrate cal lo hi raw =
      max lo (min hi (roundHalfAway
        (cal.valLo * (cal.rawHi - cal.rawLo) + ((raw : Int) - cal.rawLo) * (cal.valHi - cal.valLo))
        (cal.rawHi - cal.rawLo))) :=
  clampInt_eq lo hi _ h

theorem calibrate_mem {lo hi : Int} (h : lo ≤ hi) (cal : ChannelCal) (raw : Nat) :
    inRangeInt lo hi (calibrate cal lo hi raw) :=
  (inRangeInt_iff _ _ _).2 (clampInt_mem lo hi _ h)

/-- A channel's move keeps it sound. -/
theorem moveChannel_fits {lo hi v : Int} {u : ChannelUnit} (hv : inRangeInt lo hi v) (hu : u.Fits lo hi) (good : Bool) :
    (moveChannel good v u).Fits lo hi := by
  obtain ⟨hvalue, hgood, hhold, hlost⟩ := hu
  unfold moveChannel
  split
  · exact ⟨hv, hgood, hhold, hlost⟩
  · exact ⟨hvalue, nofun, fun _ => ⟨le_rfl, by simp⟩, nofun⟩
  · exact ⟨hv, fun _ => rfl, nofun, nofun⟩
  · next hs =>
    obtain ⟨hpos, hle⟩ := hhold hs
    split
    · next hlast => exact ⟨hvalue, nofun, nofun, fun _ => ⟨by dsimp only; omega, Nat.zero_le _⟩⟩
    · next hlast =>
      refine ⟨hvalue, fun h => absurd (hs.symm.trans h) nofun, fun _ => ?_, fun h => absurd (hs.symm.trans h) nofun⟩
      dsimp only
      omega
  · next hs =>
    split
    · exact ⟨hv, fun _ => rfl, nofun, nofun⟩
    · next hmore =>
      refine ⟨hvalue, hgood, hhold, fun _ => ⟨(hlost hs).1, ?_⟩⟩
      dsimp only
      omega
  · exact ⟨hvalue, hgood, hhold, fun h => ⟨(hlost h).1, Nat.zero_le _⟩⟩

/-- The entry of a channel after a scan. -/
theorem scanChannels_getElem (cal : Vector ChannelCal 9) (raw : Vector Nat 9) (chs : Vector ChannelUnit 9) (n : Fin 9) :
    (scanChannels cal raw chs)[n] =
      moveChannel (goodScan raw[n]) (calibrate cal[n] (channelMin n) (channelMax n) raw[n]) chs[n] := by
  simp [scanChannels]

theorem tipReach_le (g : Geometry) (mainAngle outerAngle extension : Int) :
    tipReach g mainAngle outerAngle extension ≤ 12000 := by
  have := clampInt_mem 0 12000 (reachSum g mainAngle outerAngle extension) (by decide)
  unfold tipReach
  omega

/-- Sound channels with the record formed of them are sound sensors. -/
theorem Ssu.sound_of_fits {chs : Vector ChannelUnit 9} (g : Geometry)
    (h : ∀ n : Fin 9, chs[n].Fits (channelMin n) (channelMax n)) :
    Ssu.Sound { channels := chs, record := scanRecordOf g chs } := by
  refine ⟨fun n => ?_, tipReach_le _ _ _ _, Iff.rfl, Iff.rfl⟩
  obtain ⟨hvalue, hgood, hhold, hlost⟩ := h n
  exact ⟨hvalue, hgood, hhold, hlost, by simp [scanRecordOf]⟩

/-! #### The limiter record -/

theorem clampMoment_le (m : Int) : clampMoment m ≤ 999999 := by
  have := clampInt_mem 0 999999 m (by decide)
  unfold clampMoment
  omega

theorem utilisation_le (moment : Nat) (rated : Int) : utilisation moment rated ≤ 1999 := by
  have := clampInt_mem 0 1999 (floorDiv (moment * 1000) rated) (by decide)
  unfold utilisation
  omega

theorem limiterFactor_le (st : LimiterState) (u warn limit : Int) : limiterFactor st u warn limit ≤ 1000 := by
  cases st with
  | normal => exact le_rfl
  | warn =>
    have := clampInt_mem 0 1000 (floorDiv ((limit - u) * 1000) (limit - warn)) (by decide)
    simp only [limiterFactor]
    omega
  | limit cause => exact Nat.zero_le _

theorem limiterFactor_of_isLimit {st : LimiterState} (h : st.isLimit) (u warn limit : Int) :
    limiterFactor st u warn limit = 0 := by
  cases st with
  | limit cause => rfl
  | normal | warn => simp [LimiterState.isLimit] at h

theorem momentFigures_moment_le (set : Settings) (r : ScanRecord) (ring : List Int) (src : MomentSource) :
    (momentFigures set r ring src).moment ≤ 999999 := by
  cases src <;> exact clampMoment_le _

/-- The limiter record of any scan is sound (R124, R129, R130). -/
theorem evaluateLimiter_sound (set : Settings) (r : ScanRecord) (latest : Option Sample) (ring : List Int)
    (st : LimiterState) : (evaluateLimiter set r latest ring st).Sound := by
  unfold evaluateLimiter
  dsimp only
  split
  · simp [LimiterRecord.Sound, LimiterState.isLimit]
  split
  · simp [LimiterRecord.Sound, LimiterState.isLimit]
  · refine ⟨fun h => limiterFactor_of_isLimit h _ _ _, fun h => ?_, limiterFactor_le _ _ _ _, nofun, ?_⟩
    · dsimp only at h ⊢
      rw [h]
      rfl
    · rintro f ⟨⟩
      exact ⟨utilisation_le _ _, momentFigures_moment_le _ _ _ _⟩

/-! #### The scan as a whole -/

@[simp] theorem scanSensors_ssu (raw : Vector Nat 9) (s : State) :
    (scanSensors raw s).ssu =
      { channels := scanChannels s.settings.cal raw s.ssu.channels
        record := scanRecordOf s.settings.geometry (scanChannels s.settings.cal raw s.ssu.channels) } := rfl

@[simp] theorem scanZones_ssu (s : State) : (scanZones s).ssu = s.ssu := by simp [scanZones]

@[simp] theorem scanLimiter_ssu (s : State) : (scanLimiter s).ssu = s.ssu := by simp [scanLimiter]

@[simp] theorem scanned_ssu (raw : Vector Nat 9) (s : State) :
    (scanned raw s).ssu =
      { channels := scanChannels s.settings.cal raw s.ssu.channels
        record := scanRecordOf s.settings.geometry (scanChannels s.settings.cal raw s.ssu.channels) } := by
  simp [scanned]

theorem scanLimiter_mlm (s : State) :
    (scanLimiter s).mlm = evaluateLimiter s.settings s.ssu.record s.wlc.latest s.wlc.ring s.mlm.state := by
  simp [scanLimiter]

theorem scanned_mlm_sound (raw : Vector Nat 9) (s : State) : (scanned raw s).mlm.Sound := by
  rw [scanned, scanLimiter_mlm]
  exact evaluateLimiter_sound _ _ _ _ _

theorem scanned_ssu_sound (raw : Vector Nat 9) {s : State} (h : s.ssu.Sound) : (scanned raw s).ssu.Sound := by
  rw [scanned_ssu]
  refine Ssu.sound_of_fits _ fun n => ?_
  obtain ⟨hvalue, hgood, hhold, hlost, -⟩ := h.1 n
  rw [scanChannels_getElem]
  exact moveChannel_fits (calibrate_mem (channelMin_le_channelMax n) _ _) ⟨hvalue, hgood, hhold, hlost⟩ _

end Sys2Proof.Machine
end

section
/-! ### What the events other than SCAN and RESTART leave of the sensors and the limiter -/

namespace Sys2Proof.Machine

open Sys2Proof

/-- The limiter record and the sensors: the part of the state that only a scan and a restart move. -/
def State.sensors (s : State) : LimiterRecord × Ssu := (s.mlm, s.ssu)

section Updates

variable (s : State)

@[simp] theorem State.setNow_sensors (x : Nat) : (s.setNow x).sensors = s.sensors := rfl
@[simp] theorem State.setPower_sensors (x : Power) : (s.setPower x).sensors = s.sensors := rfl
@[simp] theorem State.setSettings_sensors (x : Settings) : (s.setSettings x).sensors = s.sensors := rfl
@[simp] theorem State.setWlc_sensors (x : Wlc) : (s.setWlc x).sensors = s.sensors := rfl
@[simp] theorem State.setWce_sensors (x : Wce) : (s.setWce x).sensors = s.sensors := rfl
@[simp] theorem State.setLt_sensors (x : Trip) : (s.setLt x).sensors = s.sensors := rfl
@[simp] theorem State.setDsh_sensors (x : Vector DshSection 6) : (s.setDsh x).sensors = s.sensors := rfl
@[simp] theorem State.setCds_sensors (x : Cds) : (s.setCds x).sensors = s.sensors := rfl
@[simp] theorem State.setClp_sensors (x : Clp) : (s.setClp x).sensors = s.sensors := rfl
@[simp] theorem State.setSsr_sensors (x : Ssr) : (s.setSsr x).sensors = s.sensors := rfl
@[simp] theorem State.setPending_sensors (x : List Instr) : (s.setPending x).sensors = s.sensors := rfl
@[simp] theorem State.tick_sensors (dt : Nat) : (s.tick dt).sensors = s.sensors := rfl
@[simp] theorem State.publishCds_sensors (c : Cds) : (s.publishCds c).sensors = s.sensors := rfl
@[simp] theorem raiseReport_sensors (r : Report) : (raiseReport r s).sensors = s.sensors := rfl

@[simp] theorem State.ite_sensors (p : Prop) [Decidable p] (a b : State) :
    (if p then a else b).sensors = if p then a.sensors else b.sensors := apply_ite State.sensors p a b

@[simp] theorem latchIf_sensors (b : Bool) (src : ChangeSource) : (latchIf b src s).sensors = s.sensors := by
  simp [State.sensors]

@[simp] theorem latch_sensors (src : ChangeSource) : (latch src s).sensors = s.sensors := latchIf_sensors s true src

end Updates

/-! #### The load tally and the capture engine -/

section Engine

variable (s : State)

@[simp] theorem payloadTest_sensors (before : PayloadState) : (payloadTest before s).sensors = s.sensors := by
  simp [payloadTest]

@[simp] theorem fileLift_sensors (d : LiftDirection) (a : Fin 16) (mass : Option Nat) (flags : LiftFlags) :
    (fileLift d a mass flags s).1.sensors = s.sensors := by
  unfold fileLift
  split <;> simp

@[simp] theorem endTare_sensors (st : TareState) : (endTare st s).sensors = s.sensors := by simp [endTare]

@[simp] theorem failTare_sensors (reason : TareReason) : (failTare reason s).sensors = s.sensors := by
  unfold failTare
  split <;> simp

@[simp] theorem endCapture_sensors (outcome : CaptureOutcome) (below : Bool) :
    (endCapture outcome below s).sensors = s.sensors := rfl

@[simp] theorem endUnweighed_sensors (reason : EndReason) : (endUnweighed reason s).sensors = s.sensors := rfl

@[simp] theorem endWeighed_sensors : (endWeighed s).sensors = s.sensors := rfl

@[simp] theorem engineLinkLeft_sensors : (engineLinkLeft s).sensors = s.sensors := by
  unfold engineLinkLeft
  split <;> simp

@[simp] theorem evaluateWindow_sensors : (evaluateWindow s).sensors = s.sensors := by
  simp [evaluateWindow]

@[simp] theorem acceptSample_sensors (poll : Nat) (force : Int) : (acceptSample poll force s).sensors = s.sensors := by
  unfold acceptSample
  dsimp only
  split <;> simp

@[simp] theorem rejectSample_sensors : (rejectSample s).sensors = s.sensors := by
  unfold rejectSample
  dsimp only
  split <;> simp

@[simp] theorem engineSample_sensors (x : Sample) : (engineSample x s).sensors = s.sensors := by
  unfold engineSample
  split
  · split <;> simp
  · rfl

@[simp] theorem startCapture_sensors : (startCapture s).sensors = s.sensors := rfl

@[simp] theorem triggerArmed_sensors : (triggerArmed s).sensors = s.sensors := by
  simp [triggerArmed]

@[simp] theorem liftConditions_sensors : (liftConditions s).sensors = s.sensors := by
  unfold liftConditions
  split <;> simp

@[simp] theorem closureEvent_sensors : (closureEvent s).sensors = s.sensors := by
  simp [closureEvent]

@[simp] theorem closureTest_sensors : (closureTest s).sensors = s.sensors := by
  unfold closureTest
  split <;> split <;> simp

@[simp] theorem handOver_sensors (origin drop : BunkMembership) : (handOver origin drop s).1.sensors = s.sensors := by
  unfold handOver
  split <;> simp

@[simp] theorem closeGrip_sensors : (closeGrip s).sensors = s.sensors := by simp [closeGrip]

@[simp] theorem releaseEvent_sensors : (releaseEvent s).sensors = s.sensors := by
  unfold releaseEvent
  split <;> simp

@[simp] theorem releaseTest_sensors : (releaseTest s).sensors = s.sensors := by
  simp [releaseTest]

@[simp] theorem demandEvent_sensors : (demandEvent s).sensors = s.sensors := by simp [demandEvent]

theorem suspendExpired_sensors : (suspendExpired s).sensors = s.sensors := by
  simp [suspendExpired]

end Engine

/-! #### The demand shaper and the coil driver -/

section Drive

variable (s : State)

theorem demandExpired_sensors (v : ValveSection) : (demandExpired v s).sensors = s.sensors := by
  simp [demandExpired]

@[simp] theorem lockSupply_sensors (cause : LockCause) : (lockSupply cause s).sensors = s.sensors := by
  simp [lockSupply]

@[simp] theorem lockUnlessLocked_sensors (cause : LockCause) : (lockUnlessLocked cause s).sensors = s.sensors := by
  simp [lockUnlessLocked]

@[simp] theorem wakeSupply_sensors : (wakeSupply s).sensors = s.sensors := rfl

theorem supplySettleExpired_sensors : (supplySettleExpired s).sensors = s.sensors := by
  simp [supplySettleExpired]

theorem idleTimerExpired_sensors : (idleTimerExpired s).sensors = s.sensors := by
  simp [idleTimerExpired]

@[simp] theorem shapeAll_sensors : (shapeAll s).sensors = s.sensors := rfl

@[simp] theorem judgeAll_sensors (currents : Vector Nat 6) : (judgeAll currents s).sensors = s.sensors := by
  simp [judgeAll]

@[simp] theorem coilsAll_sensors (found : State) : (coilsAll found s).sensors = s.sensors := rfl

@[simp] theorem publishSections_sensors : (publishSections s).sensors = s.sensors := rfl

theorem drivePeriodTaken_sensors (currents : Vector Nat 6) : (drivePeriodTaken currents s).sensors = s.sensors := by
  simp [drivePeriodTaken]

theorem driverTripped_sensors (v : ValveSection) : (driverTripped v s).sensors = s.sensors := by
  simp [driverTripped]

end Drive

/-! #### The weigh link -/

section Link

variable (s : State)

@[simp] theorem linkLeft_sensors : (linkLeft s).sensors = s.sensors := by simp [linkLeft]

@[simp] theorem enterFailed_sensors (cause : LinkCause) : (enterFailed cause s).sensors = s.sensors := by
  simp [enterFailed]

@[simp] theorem enterAbsent_sensors : (enterAbsent s).sensors = s.sensors := by simp [enterAbsent]

@[simp] theorem enterIdentifying_sensors (before : List LinkSignal) :
    (enterIdentifying before s).sensors = s.sensors := rfl

@[simp] theorem powerOn_sensors : (powerOn s).sensors = s.sensors := rfl

@[simp] theorem lineChanged_sensors (level : Bool) : (lineChanged level s).sensors = s.sensors := by
  simp [lineChanged]

@[simp] theorem becamePresent_sensors : (becamePresent s).sensors = s.sensors := by
  simp [becamePresent]

@[simp] theorem becameAbsent_sensors : (becameAbsent s).sensors = s.sensors := by simp [becameAbsent]

theorem debounceExpired_sensors : (debounceExpired s).sensors = s.sensors := by
  simp [debounceExpired]

theorem powerOffTimeExpired_sensors : (powerOffTimeExpired s).sensors = s.sensors := by
  unfold powerOffTimeExpired
  split <;> simp

theorem linkSettleExpired_sensors : (linkSettleExpired s).sensors = s.sensors := by
  unfold linkSettleExpired
  split <;> simp

@[simp] theorem compareSerial_sensors (serial : Nat) : (compareSerial serial s).sensors = s.sensors := by
  simp [compareSerial]

@[simp] theorem makePoll_sensors : (makePoll s).sensors = s.sensors := rfl

@[simp] theorem enterRunning_sensors : (enterRunning s).sensors = s.sensors := by simp [enterRunning]

@[simp] theorem identityValid_sensors (h : HeadIdentity) : (identityValid h s).sensors = s.sensors := by
  simp [identityValid]

@[simp] theorem identityFailed_sensors (began : Nat) : (identityFailed began s).sensors = s.sensors := by
  simp [identityFailed]

theorem identityReadEnded_sensors (answer : Option IdentityAnswer) :
    (identityReadEnded answer s).sensors = s.sensors := by
  unfold identityReadEnded
  split
  · split <;> simp
  · rfl

theorem identityRetried_sensors : (identityRetried s).sensors = s.sensors := by
  unfold identityRetried
  split <;> simp

theorem pollMade_sensors : (pollMade s).sensors = s.sensors := by
  unfold pollMade
  split <;> simp

@[simp] theorem publishSample_sensors (number began : Nat) (o : PollOutcome) :
    (publishSample number began o s).sensors = s.sensors := rfl

@[simp] theorem finishTare_sensors (h : HeadIdentity) : (finishTare h s).sensors = s.sensors := by
  simp [finishTare]

@[simp] theorem tareSample_sensors (h : HeadIdentity) (o : PollOutcome) : (tareSample h o s).sensors = s.sensors := by
  unfold tareSample
  split
  · split <;> simp
  · rfl

@[simp] theorem enterRecovering_sensors : (enterRecovering s).sensors = s.sensors := by simp [enterRecovering]

@[simp] theorem recoveryDecision_sensors : (recoveryDecision s).sensors = s.sensors := by
  simp [recoveryDecision]

@[simp] theorem pollCompleted_sensors (h : HeadIdentity) (number began : Nat) (o : PollOutcome) :
    (pollCompleted h number began o s).sensors = s.sensors := by
  unfold pollCompleted
  dsimp only
  split
  · split <;> simp
  · split <;> simp

theorem pollEnded_sensors (answer : Option SampleAnswer) : (pollEnded answer s).sensors = s.sensors := by
  unfold pollEnded
  split
  · split <;> simp
  · rfl

@[simp] theorem sendPulse_sensors (k : Nat) : (sendPulse k s).sensors = s.sensors := rfl

theorem linesRead_sensors (clock data : Bool) : (linesRead clock data s).sensors = s.sensors := by
  unfold linesRead
  split <;> simp

theorem pulseEnded_sensors (data : Bool) : (pulseEnded data s).sensors = s.sensors := by
  unfold pulseEnded
  split <;> simp

end Link

/-! #### The requests -/

section Requests

@[simp] theorem refuse_state (code : ResultCode) (s : State) : (refuse code s).state = s := rfl

@[simp] theorem answerDone_state (s : State) (body : ReplyBody) : (answerDone s body).state = s := rfl

@[simp] theorem withSnapshot_state (result : ResultCode) (s : State) : (withSnapshot result s).state = s := rfl

@[simp] theorem Answer.ite_state (p : Prop) [Decidable p] (a b : Answer) :
    (if p then a else b).state = if p then a.state else b.state := apply_ite Answer.state p a b

@[simp] theorem putReply_sensors (place : Nat) (f : InFrame) (a : Answer) :
    (putReply place f a).sensors = a.state.sensors := rfl

@[simp] theorem takeFrame_sensors (f : InFrame) (rest : List InFrame) (s : State) :
    (takeFrame f rest s).sensors = s.sensors := rfl

/-- A request leaves the sensors and the limiter alone when its owner does. -/
theorem takeRequest_sensors {α : Type} (kind : Byte) (reader : Reader α) (owner : α → State → Answer)
    (h : ∀ s x, (owner x s).state.sensors = s.sensors) (s : State) :
    (takeRequest kind reader owner s).sensors = s.sensors := by
  have answered (f : InFrame) (s : State) : (answerFrame reader owner f s).state.sensors = s.sensors := by
    unfold answerFrame
    split <;> simp [h]
  unfold takeRequest
  split <;> simp [answered]

variable (s : State)

theorem unknownTaken_sensors : (unknownTaken s).sensors = s.sensors := by
  unfold unknownTaken
  split <;> simp

theorem byteTaken_sensors (b : Byte) (framingError : Bool) : (byteTaken b framingError s).sensors = s.sensors := rfl

theorem gapExpired_sensors : (gapExpired s).sensors = s.sensors := by
  unfold gapExpired
  split <;> simp

theorem frameSent_sensors : (frameSent s).sensors = s.sensors := by
  unfold frameSent
  split <;> simp

theorem statusOwner_sensors (page : Nat) : (statusOwner page s).state.sensors = s.sensors := by
  unfold statusOwner
  split <;> simp

@[simp] theorem State.putChanges_sensors (set : SourceSet) : (s.putChanges set).sensors = s.sensors := rfl

theorem readChangesOwner_sensors (u : Unit) : (readChangesOwner u s).state.sensors = s.sensors := by
  unfold readChangesOwner
  split <;> simp

theorem clearChangesOwner_sensors (sources : SourceSet) : (clearChangesOwner sources s).state.sensors = s.sensors := rfl

theorem changeConfigOwner_sensors (r : ChangeConfigRequest) : (changeConfigOwner r s).state.sensors = s.sensors := rfl

@[simp] theorem driveSupply_sensors (halt : Bool) : (driveSupply halt s).sensors = s.sensors := by simp [driveSupply]

@[simp] theorem driveHeld_sensors (r : DriveRequest) : (driveHeld r s).sensors = s.sensors := rfl

theorem driveOwner_sensors (r : DriveRequest) : (driveOwner r s).state.sensors = s.sensors := by
  simp [driveOwner, driveTaken]

@[simp] theorem sectionConfigured_sensors (i : Fin 6) (r : SectionConfigRequest) :
    (sectionConfigured i r s).sensors = s.sensors := rfl

theorem sectionConfigOwner_sensors (r : SectionConfigRequest) :
    (sectionConfigOwner r s).state.sensors = s.sensors := by
  unfold sectionConfigOwner
  split <;> simp

@[simp] theorem profileWritten_sensors (t : Fin 3) (entries : List Nat) :
    (profileWritten t entries s).sensors = s.sensors := rfl

theorem profileOwner_sensors (r : ProfileRequest) : (profileOwner r s).state.sensors = s.sensors := by
  unfold profileOwner
  split
  · rfl
  · split <;> simp

theorem releaseOwner_sensors (u : Unit) : (releaseOwner u s).state.sensors = s.sensors := by
  simp [releaseOwner, released]

theorem faultClearOwner_sensors (selector : Nat) : (faultClearOwner selector s).state.sensors = s.sensors := by
  simp [faultClearOwner, faultsCleared]

@[simp] theorem armGripped_sensors : (armGripped s).state.sensors = s.sensors := by simp [armGripped]

theorem armOwner_sensors (u : Unit) : (armOwner u s).state.sensors = s.sensors := by
  unfold armOwner
  split <;> simp

theorem disarmOwner_sensors (u : Unit) : (disarmOwner u s).state.sensors = s.sensors := by
  unfold disarmOwner
  split <;> simp

theorem captureOwner_sensors (r : CaptureRequest) : (captureOwner r s).state.sensors = s.sensors := by
  simp [captureOwner]

theorem linkStatusOwner_sensors (u : Unit) : (linkStatusOwner u s).state.sensors = s.sensors := rfl

@[simp] theorem resetLink_sensors : (resetLink s).sensors = s.sensors := by simp [resetLink]

theorem linkResetOwner_sensors (u : Unit) : (linkResetOwner u s).state.sensors = s.sensors := by
  simp [linkResetOwner]

theorem calibrateOwner_sensors (r : CalibrateRequest) : (calibrateOwner r s).state.sensors = s.sensors := by
  simp [calibrateOwner]

theorem tareOwner_sensors (u : Unit) : (tareOwner u s).state.sensors = s.sensors := by simp [tareOwner]

theorem storeOwner_sensors (u : Unit) : (storeOwner u s).state.sensors = s.sensors := by
  unfold storeOwner
  split <;> rfl

theorem storeCompleted_sensors (checkMatches : Bool) : (storeCompleted checkMatches s).sensors = s.sensors := by
  unfold storeCompleted
  split <;> simp

theorem restartOwner_sensors (kind : RestartKind) : (restartOwner kind s).state.sensors = s.sensors := rfl

theorem mainLost_sensors : (mainLost s).sensors = s.sensors := rfl

theorem standbyLost_sensors : (standbyLost s).sensors = s.sensors := rfl

theorem standbyReturned_sensors : (standbyReturned s).sensors = s.sensors := rfl

@[simp] theorem State.putZone_sensors (i : Fin 8) (z : Zone) : (s.putZone i z).sensors = s.sensors := rfl

theorem zoneWriteOwner_sensors (r : ZoneWriteRequest) : (zoneWriteOwner r s).state.sensors = s.sensors := by
  unfold zoneWriteOwner
  split <;> simp

theorem zoneEnableOwner_sensors (r : ZoneEnableRequest) : (zoneEnableOwner r s).state.sensors = s.sensors := by
  unfold zoneEnableOwner
  split <;> simp

theorem zoneReadOwner_sensors (n : Nat) : (zoneReadOwner n s).state.sensors = s.sensors := by
  unfold zoneReadOwner
  split <;> simp

theorem limiterOwner_sensors (r : LimiterRequest) : (limiterOwner r s).state.sensors = s.sensors := by
  simp [limiterOwner, limiterConfigured]

theorem ratedOwner_sensors (r : List (Option Nat)) : (ratedOwner r s).state.sensors = s.sensors := by
  simp [ratedOwner, ratedWritten]

@[simp] theorem calibrated_sensors (n : Fin 9) (c : ChannelCal) : (calibrated n c s).sensors = s.sensors := rfl

theorem channelOwner_sensors (r : ChannelRequest) : (channelOwner r s).state.sensors = s.sensors := by
  unfold channelOwner
  split
  · rfl
  · split <;> simp

theorem geometryOwner_sensors (r : GeometryRequest) : (geometryOwner r s).state.sensors = s.sensors := by
  simp [geometryOwner, geometryConfigured]

theorem assortmentOwner_sensors (r : Option Nat) : (assortmentOwner r s).state.sensors = s.sensors := by
  unfold assortmentOwner
  split
  · rfl
  · split <;> simp

theorem readLiftsOwner_sensors (r : ReadLiftsRequest) : (readLiftsOwner r s).state.sensors = s.sensors := by
  simp [readLiftsOwner]

theorem readTotalsOwner_sensors (r : ReadTotalsRequest) : (readTotalsOwner r s).state.sensors = s.sensors := by
  unfold readTotalsOwner
  split
  · rfl
  · split
    · rfl
    · split <;> simp

theorem undoLastOwner_sensors (u : Unit) : (undoLastOwner u s).state.sensors = s.sensors := by
  unfold undoLastOwner
  split <;> simp

theorem correctOwner_sensors (r : CorrectRequest) : (correctOwner r s).state.sensors = s.sensors := by
  unfold correctOwner
  split
  · rfl
  · split <;> simp

theorem reassignOwner_sensors (r : ReassignRequest) : (reassignOwner r s).state.sensors = s.sensors := by
  unfold reassignOwner
  split
  · split <;> simp
  · rfl

theorem manualLiftOwner_sensors (r : ManualRequest) : (manualLiftOwner r s).state.sensors = s.sensors := by
  unfold manualLiftOwner
  split
  · rename_i a _ _
    have filed := fileLift_sensors s r.direction a r.mass manualFlags
    split
    · rename_i s1 ans e
      simpa [e] using filed
    · rfl
  · rfl

theorem tripCloseOwner_sensors (u : Unit) : (tripCloseOwner u s).state.sensors = s.sensors := rfl

theorem payloadLimitOwner_sensors (r : Option Nat) : (payloadLimitOwner r s).state.sensors = s.sensors := by
  unfold payloadLimitOwner
  split <;> simp

end Requests

/-! #### Every command -/

/-- An event of the supplied part leaves the sensors and the limiter alone when its action does. -/
theorem onSupply_sensors {dt : Nat} {s t : State} {act : State → State} (h : ∀ s, (act s).sensors = s.sensors)
    (e : onSupply dt s act = .next t) : t.sensors = s.sensors := by
  simp only [onSupply, Host.Outcome.next.injEq] at e
  rw [← e]
  simp [h]

/-- A request event leaves the sensors and the limiter alone when its owner does. -/
theorem execRequest_sensors {α : Type} {dt : Nat} {kind : Byte} {reader : Reader α} {owner : α → State → Answer}
    {s t : State} (h : ∀ s x, (owner x s).state.sensors = s.sensors)
    (e : execRequest dt kind reader owner s = .next t) : t.sensors = s.sensors :=
  onSupply_sensors (takeRequest_sensors kind reader owner h) e

/-- No command but SCAN and RESTART moves the sensors or the limiter record. -/
theorem exec_sensors {c : Instr} {s t : State} (hscan : ∀ dt raw, c ≠ .scan dt raw)
    (hrestart : ∀ dt, c ≠ .restart dt) (e : exec c s = .next t) : t.sensors = s.sensors := by
  cases c with
  | scan dt raw => exact absurd rfl (hscan dt raw)
  | restart dt => exact absurd rfl (hrestart dt)
  | detectLineChange dt level =>
    rw [← Host.Outcome.next.inj e]
    split <;> simp
  | debounceExpiry => exact onSupply_sensors debounceExpired_sensors e
  | powerOffTimeExpiry => exact onSupply_sensors powerOffTimeExpired_sensors e
  | linkSettleExpiry => exact onSupply_sensors linkSettleExpired_sensors e
  | identityReadEnd dt answer => exact onSupply_sensors (identityReadEnded_sensors · answer) e
  | identityRetry => exact onSupply_sensors identityRetried_sensors e
  | poll => exact onSupply_sensors pollMade_sensors e
  | pollCompletion dt answer => exact onSupply_sensors (pollEnded_sensors · answer) e
  | recoveryLineRead dt clock data => exact onSupply_sensors (linesRead_sensors · clock data) e
  | clockPulseEnd dt data => exact onSupply_sensors (pulseEnded_sensors · data) e
  | demandExpiry dt sec => exact onSupply_sensors (demandExpired_sensors · sec) e
  | suspendTimerExpiry => exact onSupply_sensors suspendExpired_sensors e
  | drivePeriod dt currents => exact onSupply_sensors (drivePeriodTaken_sensors · currents) e
  | driverTrip dt sec => exact onSupply_sensors (driverTripped_sensors · sec) e
  | supplySettleExpiry => exact onSupply_sensors supplySettleExpired_sensors e
  | idleTimerExpiry => exact onSupply_sensors idleTimerExpired_sensors e
  | byteReceived dt byte framingError => exact onSupply_sensors (byteTaken_sensors · byte framingError) e
  | gapExpiry => exact onSupply_sensors gapExpired_sensors e
  | frameSent => exact onSupply_sensors frameSent_sensors e
  | unknownKind => exact onSupply_sensors unknownTaken_sensors e
  | storeWriteCompletion dt checkMatches => exact onSupply_sensors (storeCompleted_sensors · checkMatches) e
  | mainSupplyLoss dt => rw [← Host.Outcome.next.inj e, mainLost_sensors, State.tick_sensors]
  | standbySupplyLoss dt => rw [← Host.Outcome.next.inj e, standbyLost_sensors, State.tick_sensors]
  | standbySupplyReturn dt => rw [← Host.Outcome.next.inj e, standbyReturned_sensors, State.tick_sensors]
  | drive => exact execRequest_sensors driveOwner_sensors e
  | status => exact execRequest_sensors statusOwner_sensors e
  | readChanges => exact execRequest_sensors readChangesOwner_sensors e
  | clearChanges => exact execRequest_sensors clearChangesOwner_sensors e
  | changeConfig => exact execRequest_sensors changeConfigOwner_sensors e
  | sectionConfig => exact execRequest_sensors sectionConfigOwner_sensors e
  | profileWrite => exact execRequest_sensors profileOwner_sensors e
  | release => exact execRequest_sensors releaseOwner_sensors e
  | faultClear => exact execRequest_sensors faultClearOwner_sensors e
  | arm => exact execRequest_sensors armOwner_sensors e
  | disarm => exact execRequest_sensors disarmOwner_sensors e
  | captureConfig => exact execRequest_sensors captureOwner_sensors e
  | assortment => exact execRequest_sensors assortmentOwner_sensors e
  | readLifts => exact execRequest_sensors readLiftsOwner_sensors e
  | readTotals => exact execRequest_sensors readTotalsOwner_sensors e
  | undoLast => exact execRequest_sensors undoLastOwner_sensors e
  | correct => exact execRequest_sensors correctOwner_sensors e
  | reassign => exact execRequest_sensors reassignOwner_sensors e
  | manualLift => exact execRequest_sensors manualLiftOwner_sensors e
  | tripClose => exact execRequest_sensors tripCloseOwner_sensors e
  | payloadLimit => exact execRequest_sensors payloadLimitOwner_sensors e
  | zoneWrite => exact execRequest_sensors zoneWriteOwner_sensors e
  | zoneEnable => exact execRequest_sensors zoneEnableOwner_sensors e
  | zoneRead => exact execRequest_sensors zoneReadOwner_sensors e
  | limiterConfig => exact execRequest_sensors limiterOwner_sensors e
  | ratedWrite => exact execRequest_sensors ratedOwner_sensors e
  | linkStatus => exact execRequest_sensors linkStatusOwner_sensors e
  | linkReset => exact execRequest_sensors linkResetOwner_sensors e
  | calibrate => exact execRequest_sensors calibrateOwner_sensors e
  | tare => exact execRequest_sensors tareOwner_sensors e
  | channelCalibration => exact execRequest_sensors channelOwner_sensors e
  | geometryConfig => exact execRequest_sensors geometryOwner_sensors e
  | storeSettings => exact execRequest_sensors storeOwner_sensors e
  | restartRequest => exact execRequest_sensors restartOwner_sensors e

end Sys2Proof.Machine
end

section
/-! ### The sensors and the limiter, kept sound by every step -/

namespace Sys2Proof.Machine

open Sys2Proof

/-! #### The restart of the sensors and the limiter -/

theorem restartLimiter_sound : restartLimiter.Sound := by
  simp [LimiterRecord.Sound, restartLimiter, LimiterState.isLimit]

/-- The sensors after a restart are sound: every channel's range holds 0 (R19). -/
theorem restartSsu_sound (g : Geometry) : (restartSsu g).Sound := by
  have hzero : ∀ n : Fin 9, inRangeInt (channelMin n) (channelMax n) 0 := by decide
  refine ⟨fun n => ?_, Nat.min_le_left _ _, ?_, ?_⟩
  · simpa [restartSsu, restartScanRecord, restartChannel] using hzero n
  · simp [restartSsu, restartScanRecord, restartChannel, tipIsValid, stateOf]
  · simp [restartSsu, restartScanRecord, restartChannel, tiltLost, stateOf]

/-- A restart either leaves the sensors and the limiter or sets them to their restart values. -/
theorem restartTaken_sensors (s : State) :
    (restartTaken s).sensors = s.sensors ∨ ∃ g, (restartTaken s).sensors = (restartLimiter, restartSsu g) := by
  have hset (asked : Option RestartKind) (s : State) :
      ∃ g, (restarted asked s).sensors = (restartLimiter, restartSsu g) := by
    simp only [restarted, latchIf_sensors]
    exact ⟨_, rfl⟩
  unfold restartTaken
  split
  · split
    · split
      · exact .inr (hset _ _)
      · exact .inl rfl
    · exact .inl rfl
  · exact .inr (hset _ _)

/-! #### Every step -/

/-- The invariant of O13, of the state's `sensors`. -/
abbrev SensorsSound (p : LimiterRecord × Ssu) : Prop := p.1.Sound ∧ p.2.Sound

theorem scanned_sensorsSound (raw : Vector Nat 9) {s : State} (h : SensorsSound s.sensors) :
    SensorsSound (scanned raw s).sensors :=
  ⟨scanned_mlm_sound raw s, scanned_ssu_sound raw h.2⟩

theorem restartTaken_sensorsSound {s : State} (h : SensorsSound s.sensors) : SensorsSound (restartTaken s).sensors := by
  rcases restartTaken_sensors s with e | ⟨g, e⟩ <;> rw [e]
  · exact h
  · exact ⟨restartLimiter_sound, restartSsu_sound g⟩

theorem exec_sensorsSound {c : Instr} {s t : State} (h : SensorsSound s.sensors) (e : exec c s = .next t) :
    SensorsSound t.sensors := by
  by_cases hscan : ∃ dt raw, c = .scan dt raw
  · obtain ⟨dt, raw, rfl⟩ := hscan
    have ht := Host.Outcome.next.inj e
    rw [← ht]
    split
    · exact scanned_sensorsSound raw h
    · exact h
  by_cases hrestart : ∃ dt, c = .restart dt
  · obtain ⟨dt, rfl⟩ := hrestart
    rw [← Host.Outcome.next.inj e]
    exact restartTaken_sensorsSound h
  · rw [exec_sensors (fun dt raw hc => hscan ⟨dt, raw, hc⟩) (fun dt hc => hrestart ⟨dt, hc⟩) e]
    exact h

/-- Settles O13: only SCAN and RESTART move the sensors and the limiter, a scan forms a sound record of sound channels,
and the restart values are sound. -/
theorem stepKeepsLimiterAndSensors : Obligations.StepKeepsLimiterAndSensors := by
  intro s t hmlm hssu hstep
  cases hp : s.pending with
  | nil =>
    simp only [step, hp, Host.Outcome.next.injEq] at hstep
    exact hstep ▸ ⟨hmlm, hssu⟩
  | cons c rest =>
    simp only [step, hp] at hstep
    exact exec_sensorsSound (s := s.setPending rest) ⟨hmlm, hssu⟩ hstep

end Sys2Proof.Machine
end

section
/-! ### What a scan publishes: the table, the channels, the record and the latches -/

namespace Sys2Proof.Machine

open Sys2Proof

/-! #### The table of R8 and its reading by quadrant -/

/-- The selected entries of R8, at every 10° and at 45°. -/
theorem cosEntry_selected :
    [0, 100, 200, 300, 400, 450, 500, 600, 700, 800, 900].map cosEntry =
      [16384, 16135, 15396, 14189, 12551, 11585, 10531, 8192, 5604, 2845, 0] := by decide +kernel

theorem reduceAngle_lt (a : Int) : reduceAngle a < 3600 := by
  unfold reduceAngle
  omega

section Quadrants

variable {a : Int}

theorem cosSin_first (h : reduceAngle a ≤ 900) :
    cosOf a = cosEntry (reduceAngle a) ∧ sinOf a = cosEntry (900 - reduceAngle a) :=
  ⟨if_pos h, if_pos h⟩

theorem cosSin_second (h : 901 ≤ reduceAngle a) (h' : reduceAngle a ≤ 1800) :
    cosOf a = -cosEntry (1800 - reduceAngle a) ∧ sinOf a = cosEntry (reduceAngle a - 900) := by
  have h1 : ¬reduceAngle a ≤ 900 := by omega
  exact ⟨(if_neg h1).trans (if_pos h'), (if_neg h1).trans (if_pos h')⟩

theorem cosSin_third (h : 1801 ≤ reduceAngle a) (h' : reduceAngle a ≤ 2700) :
    cosOf a = -cosEntry (reduceAngle a - 1800) ∧ sinOf a = -cosEntry (2700 - reduceAngle a) := by
  have h1 : ¬reduceAngle a ≤ 900 := by omega
  have h2 : ¬reduceAngle a ≤ 1800 := by omega
  exact ⟨(if_neg h1).trans ((if_neg h2).trans (if_pos h')), (if_neg h1).trans ((if_neg h2).trans (if_pos h'))⟩

theorem cosSin_fourth (h : 2701 ≤ reduceAngle a) :
    cosOf a = cosEntry (3600 - reduceAngle a) ∧ sinOf a = -cosEntry (reduceAngle a - 2700) := by
  have h1 : ¬reduceAngle a ≤ 900 := by omega
  have h2 : ¬reduceAngle a ≤ 1800 := by omega
  have h3 : ¬reduceAngle a ≤ 2700 := by omega
  exact ⟨(if_neg h1).trans ((if_neg h2).trans (if_neg h3)), (if_neg h1).trans ((if_neg h2).trans (if_neg h3))⟩

end Quadrants

/-! #### A channel's move, by the class of its sample -/

section Moves

variable (v : Int) (u : ChannelUnit)

/-- The move by a good sample (R5, R6). -/
theorem moveChannel_true :
    (u.state = .good → moveChannel true v u = { u with value := v }) ∧
      (u.state = .hold → moveChannel true v u = { u with state := .good, value := v, bad := 0 }) ∧
      (u.state = .lost → u.good < 9 → moveChannel true v u = { u with good := u.good + 1 }) ∧
      (u.state = .lost → 9 ≤ u.good →
        moveChannel true v u = { state := .good, value := v, bad := 0, good := 0 }) := by
  refine ⟨fun h => ?_, fun h => ?_, fun h hn => ?_, fun h hn => ?_⟩
  · simp [moveChannel, h]
  · simp [moveChannel, h]
  · have : ¬10 ≤ u.good + 1 := by omega
    simp [moveChannel, h, this]
  · simp [moveChannel, h, hn]

/-- The move by a bad sample (R5, R6). -/
theorem moveChannel_false :
    (u.state = .good → moveChannel false v u = { u with state := .hold, bad := 1 }) ∧
      (u.state = .hold → u.bad < 5 → moveChannel false v u = { u with bad := u.bad + 1 }) ∧
      (u.state = .hold → 5 ≤ u.bad →
        moveChannel false v u = { u with state := .lost, bad := u.bad + 1, good := 0 }) ∧
      (u.state = .lost → moveChannel false v u = { u with good := 0 }) := by
  refine ⟨fun h => ?_, fun h hn => ?_, fun h hn => ?_, fun h => ?_⟩
  · simp [moveChannel, h]
  · have : ¬6 ≤ u.bad + 1 := by omega
    simp [moveChannel, h, this]
  · simp [moveChannel, h, hn]
  · simp [moveChannel, h]

end Moves

theorem goodScan_of_mem {c : Nat} (h : 80 ≤ c) (h' : c ≤ 4015) : goodScan c = true := by simp [goodScan, h, h']

theorem goodScan_of_not_mem {c : Nat} (h : c < 80 ∨ 4015 < c) : goodScan c = false := by
  rw [Bool.eq_false_iff]
  simp [goodScan]
  omega

/-! #### The scan record -/

theorem tipReach_eq (g : Geometry) (mainAngle outerAngle extension : Int) :
    (tipReach g mainAngle outerAngle extension : Int) =
      max 0 (min 12000
        (g.pillar + roundHalfUp (g.mainLen * cosEntry mainAngle.natAbs) 16384 +
          roundHalfUp ((g.outerLen + extension) * cosEntry outerAngle.natAbs) 16384)) := by
  have hmem := clampInt_mem 0 12000 (reachSum g mainAngle outerAngle extension) (by decide)
  rw [tipReach, Int.toNat_of_nonneg hmem.1, clampInt_eq _ _ _ (by decide), reachSum]

theorem tipIsValid_iff (chs : Vector ChannelUnit 9) :
    tipIsValid chs = true ↔
      ¬chs[(0 : Fin 9)].state = .lost ∧ ¬chs[(1 : Fin 9)].state = .lost ∧ ¬chs[(2 : Fin 9)].state = .lost ∧
        ¬chs[(3 : Fin 9)].state = .lost := by
  simp [tipIsValid, stateOf, Channel.index, and_assoc]

theorem tiltLost_iff (chs : Vector ChannelUnit 9) :
    tiltLost chs = true ↔ chs[(4 : Fin 9)].state = .lost ∨ chs[(5 : Fin 9)].state = .lost := by
  simp [tiltLost, stateOf, Channel.index]

/-! #### The latches of a scan -/

/-- What a latch does to the port depends on the port and the enables alone. -/
theorem latchIf_clp_congr {a b : State} (p : Bool) (src : ChangeSource) (hset : a.settings = b.settings)
    (hclp : a.clp = b.clp) : (latchIf p src a).clp = (latchIf p src b).clp := by
  cases p
  · exact hclp
  · rw [latchIf_true, latchIf_true, latch_eq, latch_eq, hset, hclp]
    split
    · rfl
    · exact hclp

theorem someEnteredLost_eq (before after : Vector ChannelUnit 9) :
    someEnteredLost before after = decide (∃ n : Fin 9, before[n].state ≠ .lost ∧ after[n].state = .lost) := by
  rw [Bool.eq_iff_iff]
  simp [someEnteredLost]

@[simp] theorem scanZones_mlm (s : State) : (scanZones s).mlm = s.mlm := by simp [scanZones]
@[simp] theorem scanZones_settings (s : State) : (scanZones s).settings = s.settings := by simp [scanZones]
@[simp] theorem scanSensors_evm (raw : Vector Nat 9) (s : State) : (scanSensors raw s).evm = s.evm := by
  simp [scanSensors]
@[simp] theorem scanSensors_mlm (raw : Vector Nat 9) (s : State) : (scanSensors raw s).mlm = s.mlm := by
  simp [scanSensors]
@[simp] theorem scanSensors_settings (raw : Vector Nat 9) (s : State) :
    (scanSensors raw s).settings = s.settings := by simp [scanSensors]
@[simp] theorem scanLimiter_evm (s : State) : (scanLimiter s).evm = s.evm := by simp [scanLimiter]

theorem scanSensors_clp (raw : Vector Nat 9) (s : State) :
    (scanSensors raw s).clp =
      (latchIf (someEnteredLost s.ssu.channels (scanSensors raw s).ssu.channels) .channelLost s).clp :=
  latchIf_clp_congr _ _ rfl rfl

theorem scanZones_clp (s : State) :
    (scanZones s).clp = (latchIf (!s.evm.intrusion && (scanZones s).evm.intrusion) .zoneIntrusion s).clp := by
  have hevm : (scanZones s).evm = evaluateZones s.ssu.record s.settings.zones s.evm.intrusion := by simp [scanZones]
  rw [hevm]
  exact latchIf_clp_congr _ _ rfl rfl

theorem scanLimiter_clp (s : State) :
    (scanLimiter s).clp =
      (latchIf ((scanLimiter s).mlm.state.isLimit && !s.mlm.state.isLimit) .limiterLimit
        (latchIf ((scanLimiter s).mlm.state = .warn && s.mlm.state != .warn) .limiterWarn s)).clp := by
  rw [scanLimiter_mlm]
  exact latchIf_clp_congr _ _ (by simp) (latchIf_clp_congr _ _ rfl rfl)

/-- LIMIT is what is neither NORMAL nor WARN. -/
theorem LimiterState.isLimit_iff (st : LimiterState) : st.isLimit = true ↔ st ≠ .normal ∧ st ≠ .warn := by
  cases st <;> simp [LimiterState.isLimit]

/-- The port after a scan is the port with the scan's latches, in their order. -/
theorem scanned_clp (raw : Vector Nat 9) (s : State) : (scanned raw s).clp = (s.scanLatches (scanned raw s)).clp := by
  have hevm : (scanned raw s).evm = (scanZones (scanSensors raw s)).evm := scanLimiter_evm _
  have hssu : (scanned raw s).ssu = (scanSensors raw s).ssu := by simp [scanned]
  have hlost := someEnteredLost_eq s.ssu.channels (scanned raw s).ssu.channels
  have hintrusion : (!s.evm.intrusion && (scanned raw s).evm.intrusion) =
      decide (s.evm.intrusion = false ∧ (scanned raw s).evm.intrusion = true) := by
    rw [Bool.eq_iff_iff]
    simp
  have hwarn : (decide ((scanned raw s).mlm.state = .warn) && s.mlm.state != .warn) =
      decide (s.mlm.state ≠ .warn ∧ (scanned raw s).mlm.state = .warn) := by
    rw [Bool.eq_iff_iff]
    simp [and_comm]
  have hlimit : ((scanned raw s).mlm.state.isLimit && !s.mlm.state.isLimit) =
      decide ((s.mlm.state = .normal ∨ s.mlm.state = .warn) ∧ (scanned raw s).mlm.state ≠ .normal ∧
        (scanned raw s).mlm.state ≠ .warn) := by
    rw [Bool.eq_iff_iff, Bool.and_eq_true, Bool.not_eq_true', ← Bool.not_eq_true, LimiterState.isLimit_iff,
      LimiterState.isLimit_iff, decide_eq_true_iff]
    tauto
  simp only [State.scanLatches, latch_ite]
  rw [← hlost, ← hintrusion, ← hwarn, ← hlimit, hssu, hevm]
  refine (scanLimiter_clp _).trans ?_
  rw [scanZones_mlm, scanSensors_mlm]
  refine latchIf_clp_congr _ _ (by simp) (latchIf_clp_congr _ _ (by simp) ((scanZones_clp _).trans ?_))
  rw [scanSensors_evm]
  exact latchIf_clp_congr _ _ (by simp) (scanSensors_clp raw s)

theorem scanSensors_frame (raw : Vector Nat 9) (s : State) :
    scanSensors raw s = (s.setSsu (scanSensors raw s).ssu).setClp (scanSensors raw s).clp := by
  unfold scanSensors
  dsimp only
  rw [latchIf_frame]
  rfl

theorem scanZones_frame (s : State) : scanZones s = (s.setEvm (scanZones s).evm).setClp (scanZones s).clp := by
  unfold scanZones
  dsimp only
  rw [latchIf_frame]
  rfl

theorem scanLimiter_frame (s : State) :
    scanLimiter s = (s.setMlm (scanLimiter s).mlm).setClp (scanLimiter s).clp := by
  unfold scanLimiter
  dsimp only
  rw [latchIf_frame, latchIf_frame _ _ (s.setMlm _)]
  rfl

/-- A scan moves the sensors, the evaluation, the limiter and the port, and nothing else. -/
theorem scanned_frame (raw : Vector Nat 9) (s : State) :
    scanned raw s =
      { s with
        ssu := (scanned raw s).ssu
        evm := (scanned raw s).evm
        mlm := (scanned raw s).mlm
        clp := (scanned raw s).clp } := by
  obtain ⟨u, c1, hsensors⟩ : ∃ u c, scanSensors raw s = (s.setSsu u).setClp c := ⟨_, _, scanSensors_frame raw s⟩
  obtain ⟨e, c2, hzones⟩ : ∃ e c, scanZones (scanSensors raw s) = ((scanSensors raw s).setEvm e).setClp c :=
    ⟨_, _, scanZones_frame _⟩
  obtain ⟨m, c3, hlimiter⟩ : ∃ m c, scanned raw s = ((scanZones (scanSensors raw s)).setMlm m).setClp c :=
    ⟨_, _, scanLimiter_frame _⟩
  rw [hlimiter, hzones, hsensors]
  rfl

/-- The latches of a scan do not read the clock. -/
theorem State.scanLatches_tick_clp (s t : State) (dt : Nat) :
    ((s.tick dt).scanLatches t).clp = (s.scanLatches t).clp := by
  simp only [State.scanLatches, latch_ite]
  exact latchIf_clp_congr _ _ (by simp) (latchIf_clp_congr _ _ (by simp)
    (latchIf_clp_congr _ _ (by simp) (latchIf_clp_congr _ _ rfl rfl)))

/-- Settles O53: the channels move by `moveChannel_true` and `moveChannel_false`, the record is `scanRecordOf` of them,
and the rest is the frame of a scan. -/
theorem scanMovesSensors : Obligations.ScanMovesSensors := by
  refine ⟨cosEntry_selected, fun a k hk => ?_, fun s dt raw hmain => ?_⟩
  · obtain rfl : k = reduceAngle a := by
      unfold reduceAngle
      omega
    exact ⟨reduceAngle_lt a, cosSin_first, cosSin_second, cosSin_third, cosSin_fourth⟩
  · have hssu := scanned_ssu raw (s.tick dt)
    have hchannels (n : Fin 9) : (scanned raw (s.tick dt)).ssu.channels[n] =
        moveChannel (goodScan raw[n]) (calibrate s.settings.cal[n] (channelMin n) (channelMax n) raw[n])
          s.ssu.channels[n] := by
      rw [hssu]
      exact scanChannels_getElem _ _ _ n
    have hrecord : (scanned raw (s.tick dt)).ssu.record =
        scanRecordOf s.settings.geometry (scanned raw (s.tick dt)).ssu.channels := by
      rw [hssu]
      rfl
    refine ⟨scanned raw (s.tick dt), fun n => (scanned raw (s.tick dt)).ssu.channels[n].state = .lost,
      onSupply_main dt s _ hmain, fun _ => Iff.rfl, ?_, ?_, ?_, ?_, ?_, ?_, ?_, ?_, ?_⟩
    · rintro n cal v rfl rfl
      rw [hchannels, ← calibrate_eq (channelMin_le_channelMax n)]
      refine ⟨fun hlo hhi => ?_, fun hout => ?_⟩
      · rw [goodScan_of_mem hlo hhi]
        exact moveChannel_true _ _
      · rw [goodScan_of_not_mem hout]
        exact moveChannel_false _ _
    · intro n
      simp [scanRecordOf]
    · rw [hrecord]
      rfl
    · rw [hrecord]
      rfl
    · rw [hrecord]
      exact tipIsValid_iff _
    · rw [hrecord]
      exact tiltLost_iff _
    · rw [hrecord]
      exact tipReach_eq _ _ _ _
    · rw [hrecord]
      rfl
    · rw [← State.scanLatches_tick_clp s _ dt, ← scanned_clp]
      exact scanned_frame raw (s.tick dt)

end Sys2Proof.Machine
end

section
/-! ### The requests that write the settings of the limiter, the rated table, the channels and the geometry -/

namespace Sys2Proof.Machine

open Sys2Proof

/-! #### The reply of a request that replaces the settings -/

@[simp] theorem takenState_settings (dt : Nat) (f : InFrame) (rest : List InFrame) (s : State) :
    (takenState dt f rest s).settings = s.settings := rfl

@[simp] theorem takenState_ssu (dt : Nat) (f : InFrame) (rest : List InFrame) (s : State) :
    (takenState dt f rest s).ssu = s.ssu := rfl

@[simp] theorem takenState_mlm (dt : Nat) (f : InFrame) (rest : List InFrame) (s : State) :
    (takenState dt f rest s).mlm = s.mlm := rfl

/-- An answer that replaces the settings and nothing else: time, settings and port change. -/
theorem putReply_settings (dt : Nat) (kind tag : Byte) (fields : List Byte) (rest : List InFrame) (s : State)
    (x : Settings) (body : ReplyBody) :
    putReply s.clp.outbound.length { kind := kind, tag := tag, fields := fields }
        (answerDone ((takenState dt { kind := kind, tag := tag, fields := fields } rest s).setSettings x) body) =
      { s with
        now := s.now + dt
        settings := x
        clp := s.clp.answered rest kind tag .done body } := by
  simp [putReply, answerDone, takenState, takeFrame, State.setClp, State.setSettings, State.tick, State.setNow,
    Clp.answered]

/-! #### Limiter config -/

/-- A field that stands in its range is in range after a replacement exactly when the new value, if any, is. -/
theorem optRange_iff_getD {lo hi d : Nat} (h : lo ≤ d ∧ d ≤ hi) (x : Option Nat) :
    optRange lo hi x = true ↔ lo ≤ x.getD d ∧ x.getD d ≤ hi := by
  cases x <;> simp [h]

theorem limiterApply_of_empty {r : LimiterRequest} (h : limiterEmpty r = true) (c : LimiterSettings) :
    limiterApply r c = c := by
  simp only [limiterEmpty, Bool.and_eq_true, Option.isNone_iff_eq_none] at h
  obtain ⟨⟨⟨⟨⟨⟨h1, h2⟩, h3⟩, h4⟩, h5⟩, h6⟩, h7⟩ := h
  simp [limiterApply, h1, h2, h3, h4, h5, h6, h7]

/-- Sound settings with the fields replaced are sound when every field lies in its range and the levels agree (R131). -/
theorem limiterApply_sound_iff (r : LimiterRequest) {c : LimiterSettings} (h : c.Sound) :
    (limiterApply r c).Sound ↔
      limiterInRange r = true ∧ (limiterApply r c).warnOn < (limiterApply r c).limitOn := by
  simp only [LimiterSettings.Sound, inRange_iff] at h
  obtain ⟨hwarn, hlimit, -, hhyst, hderate, hpiston, hrod, hlever⟩ := h
  simp only [limiterInRange, Bool.and_eq_true, optRange_iff_getD hwarn, optRange_iff_getD hlimit,
    optRange_iff_getD ⟨Nat.zero_le _, hhyst⟩, optRange_iff_getD ⟨Nat.zero_le _, hderate⟩,
    optRange_iff_getD hpiston r.pistonArea, optRange_iff_getD hrod r.rodArea, optRange_iff_getD hlever,
    LimiterSettings.Sound, inRange_iff, limiterApply, Nat.zero_le, true_and]
  tauto

/-- On sound settings Limiter config refuses exactly what would not be sound (R131). -/
theorem limiterOwner_eq (r : LimiterRequest) {s : State} (h : s.settings.limiter.Sound) :
    limiterOwner r s =
      if (limiterApply r s.settings.limiter).Sound then
        answerDone (limiterConfigured r s) (.limiterConfig (limiterApply r s.settings.limiter) s.mlm)
      else refuse .badField s := by
  have hempty : limiterEmpty r = true →
      (limiterApply r s.settings.limiter).warnOn < (limiterApply r s.settings.limiter).limitOn := fun he => by
    obtain ⟨-, -, hlevels, -⟩ := h
    rw [limiterApply_of_empty he]
    exact hlevels
  simp only [limiterApply_sound_iff r h]
  unfold limiterOwner
  cases hrange : limiterInRange r
  · simp
  · by_cases hle : (limiterApply r s.settings.limiter).limitOn ≤ (limiterApply r s.settings.limiter).warnOn
    · have hfull : limiterEmpty r = false := Bool.eq_false_iff.2 fun he => absurd (hempty he) (by omega)
      simp [hle, hfull]
    · simp [hle]

/-! #### Rated write -/

theorem readOpts_length {α : Type} (mask : Nat) (field : Reader α) (n at_ : Nat) {bytes rest : List Byte}
    {xs : List (Option α)} (h : readOpts mask field at_ n bytes = some (xs, rest)) : xs.length = n := by
  induction n generalizing at_ bytes xs with
  | zero =>
    cases h
    rfl
  | succ n ih =>
    simp only [readOpts, bind, StateT.bind, Option.bind_eq_some_iff, Prod.exists] at h
    obtain ⟨x, bytes1, -, ys, bytes2, hys, hpure⟩ := h
    cases hpure
    simp [ih _ hys]

/-- A Rated write that decodes carries nine optional entries. -/
theorem readRated_length {fields : List Byte} {r : List (Option Nat)} (h : decodeAll readRated fields = some r) :
    r.length = 9 := by
  unfold decodeAll at h
  split at h
  · next x hx =>
    cases h
    simp only [readRated, bind, StateT.bind, Option.bind_eq_some_iff, Prod.exists] at hx
    obtain ⟨m, bytes, -, hopts⟩ := hx
    exact readOpts_length _ _ _ _ hopts
  · cases h

theorem ratedApply_getElem {r : List (Option Nat)} {i : Fin 9} {x : Option Nat} (h : r[i.val]? = some x)
    (t : Vector Nat 9) : (ratedApply r t)[i] = x.getD t[i] := by
  simp [ratedApply, h]

/-- Rated write refuses an entry out of range (R132). -/
theorem ratedOwner_of_bad {r : List (Option Nat)} {x : Nat} (hx : some x ∈ r) (hbad : x < 1000 ∨ 999999 < x)
    (s : State) : ratedOwner r s = refuse .badField s := by
  have hall : r.all (optRange 1000 999999) = false := by
    rw [Bool.eq_false_iff, Ne, List.all_eq_true]
    intro h
    have := (optRange_iff _ _ _).1 (h _ hx) x rfl
    omega
  simp [ratedOwner, hall]

/-- Rated write takes entries that lie in their range (R132). -/
theorem ratedOwner_of_good {r : List (Option Nat)} (h : ∀ x, some x ∈ r → 1000 ≤ x ∧ x ≤ 999999) (s : State) :
    ratedOwner r s =
      answerDone (ratedWritten r s) (.rated (ratedApply r s.settings.rated) s.mlm) := by
  have hall : r.all (optRange 1000 999999) = true := by
    rw [List.all_eq_true]
    exact fun y hy => (optRange_iff _ _ _).2 fun x hx => h x (hx ▸ hy)
  simp [ratedOwner, hall]

/-! #### Channel calibration and Geometry config -/

@[simp] theorem finOf_val {n : Nat} (i : Fin n) : finOf n i.val = some i := by simp [finOf]

theorem finOf_of_le {n k : Nat} (h : n ≤ k) : finOf n k = none := by
  simp [finOf]
  omega

theorem calOk_iff (n : Fin 9) (c : ChannelCal) :
    calOk n c = true ↔
      c.rawLo < c.rawHi ∧ c.rawHi ≤ 4095 ∧ channelMin n ≤ c.valLo ∧ c.valLo ≤ channelMax n ∧
        channelMin n ≤ c.valHi ∧ c.valHi ≤ channelMax n := by
  simp only [calOk, Bool.and_eq_true, inRange_iff, inRangeInt_iff, decide_eq_true_iff]
  omega

theorem channelOwner_none {r : ChannelRequest} (h : 8 < r.channel) (s : State) :
    channelOwner r s = refuse .badField s := by
  simp [channelOwner, finOf_of_le (n := 9) h]

theorem channelOwner_read {r : ChannelRequest} {n : Fin 9} (hn : r.channel = n.val) (hr : r.cal = none) (s : State) :
    channelOwner r s = answerDone s (s.channelReply n) := by
  simp [channelOwner, hn, hr]

theorem channelOwner_write {r : ChannelRequest} {n : Fin 9} {c : ChannelCal} (hn : r.channel = n.val)
    (hr : r.cal = some c) (s : State) :
    channelOwner r s =
      if calOk n c then answerDone (calibrated n c s) ((calibrated n c s).channelReply n) else refuse .badField s := by
  simp [channelOwner, hn, hr]

theorem calibrated_channelReply (n : Fin 9) (c : ChannelCal) (s : State) :
    (calibrated n c s).channelReply n = .channel n c s.ssu.record.channels[n] := by
  simp [calibrated, State.channelReply]

theorem geometryOwner_of_bad {r : GeometryRequest} (h : geometryInRange r = false) (s : State) :
    geometryOwner r s = refuse .badField s := by simp [geometryOwner, h]

theorem geometryOwner_of_good {r : GeometryRequest} (h : ¬geometryInRange r = false) (s : State) :
    geometryOwner r s =
      answerDone (geometryConfigured r s)
        (.geometry (geometryApply r s.settings.geometry) s.ssu.record.reach s.ssu.record.tipValid) := by
  simp [geometryOwner, h]

theorem geometryInRange_eq_false_iff (r : GeometryRequest) :
    geometryInRange r = false ↔
      (∃ x ∈ r.pillar, 1000 < x) ∨ (∃ x ∈ r.mainLen, x < 1000 ∨ 8000 < x) ∨
        ∃ x ∈ r.outerLen, x < 1000 ∨ 8000 < x := by
  rw [← Bool.not_eq_true]
  simp only [geometryInRange, Bool.and_eq_true, optRange_iff, Option.mem_def]
  grind

/-! #### The four requests -/

section Asked

variable {s : State} {dt : Nat} {tag : Byte} {fields : List Byte} {rest : List InFrame}

theorem exec_limiterConfig_asked {r : LimiterRequest} (h : s.asked 0x48#8 tag fields rest)
    (hr : decodeAll readLimiter fields = some r) (hs : s.settings.limiter.Sound) :
    (¬(limiterApply r s.settings.limiter).Sound →
        exec (.limiterConfig dt) s = .next (s.replied dt rest 0x48#8 tag .badField .none)) ∧
      ((limiterApply r s.settings.limiter).Sound →
        exec (.limiterConfig dt) s =
          .next
            { s with
              now := s.now + dt
              settings := { s.settings with limiter := limiterApply r s.settings.limiter }
              clp := s.clp.answered rest 0x48#8 tag .done
                (.limiterConfig (limiterApply r s.settings.limiter) s.mlm) }) := by
  have howner := limiterOwner_eq r (s := takenState dt ⟨0x48#8, tag, fields⟩ rest s) hs
  refine ⟨fun hc => (asked_decoded limiterOwner h hr).trans ?_, fun hc => (asked_decoded limiterOwner h hr).trans ?_⟩
  · rw [howner, takenState_settings, if_neg hc, putReply_refuse]
  · rw [howner, takenState_settings, if_pos hc]
    exact congrArg _ (putReply_settings ..)

theorem exec_ratedWrite_bad {r : List (Option Nat)} {x : Nat} (h : s.asked 0x49#8 tag fields rest)
    (hr : decodeAll readRated fields = some r) (hx : some x ∈ r) (hbad : x < 1000 ∨ 999999 < x) :
    exec (.ratedWrite dt) s = .next (s.replied dt rest 0x49#8 tag .badField .none) := by
  refine (asked_decoded ratedOwner h hr).trans ?_
  rw [ratedOwner_of_bad hx hbad, putReply_refuse]

theorem exec_ratedWrite_good {r : List (Option Nat)} (h : s.asked 0x49#8 tag fields rest)
    (hr : decodeAll readRated fields = some r) (hgood : ∀ x, some x ∈ r → 1000 ≤ x ∧ x ≤ 999999) :
    exec (.ratedWrite dt) s =
      .next
        { s with
          now := s.now + dt
          settings := { s.settings with rated := ratedApply r s.settings.rated }
          clp := s.clp.answered rest 0x49#8 tag .done (.rated (ratedApply r s.settings.rated) s.mlm) } := by
  refine (asked_decoded ratedOwner h hr).trans ?_
  rw [ratedOwner_of_good hgood]
  exact congrArg _ (putReply_settings ..)

theorem exec_channelCalibration_none {r : ChannelRequest} (h : s.asked 0x58#8 tag fields rest)
    (hr : decodeAll readChannel fields = some r) (hn : 8 < r.channel) :
    exec (.channelCalibration dt) s = .next (s.replied dt rest 0x58#8 tag .badField .none) := by
  refine (asked_decoded channelOwner h hr).trans ?_
  rw [channelOwner_none hn, putReply_refuse]

theorem exec_channelCalibration_read {r : ChannelRequest} {n : Fin 9} (h : s.asked 0x58#8 tag fields rest)
    (hr : decodeAll readChannel fields = some r) (hn : r.channel = n.val) (hc : r.cal = none) :
    exec (.channelCalibration dt) s =
      .next (s.replied dt rest 0x58#8 tag .done (.channel n s.settings.cal[n] s.ssu.record.channels[n])) := by
  refine (asked_decoded channelOwner h hr).trans ?_
  rw [channelOwner_read hn hc]
  exact congrArg _ (putReply_same ..)

theorem exec_channelCalibration_write {r : ChannelRequest} {n : Fin 9} {c : ChannelCal}
    (h : s.asked 0x58#8 tag fields rest) (hr : decodeAll readChannel fields = some r) (hn : r.channel = n.val)
    (hc : r.cal = some c) :
    (¬calOk n c = true →
        exec (.channelCalibration dt) s = .next (s.replied dt rest 0x58#8 tag .badField .none)) ∧
      (calOk n c = true →
        exec (.channelCalibration dt) s =
          .next
            { s with
              now := s.now + dt
              settings := { s.settings with cal := s.settings.cal.set n c }
              clp := s.clp.answered rest 0x58#8 tag .done (.channel n c s.ssu.record.channels[n]) }) := by
  have howner := channelOwner_write hn hc (takenState dt ⟨0x58#8, tag, fields⟩ rest s)
  refine ⟨fun hok => (asked_decoded channelOwner h hr).trans ?_,
    fun hok => (asked_decoded channelOwner h hr).trans ?_⟩
  · rw [howner, if_neg hok, putReply_refuse]
  · rw [howner, if_pos hok, calibrated_channelReply]
    exact congrArg _ (putReply_settings ..)

theorem exec_geometryConfig_asked {r : GeometryRequest} (h : s.asked 0x59#8 tag fields rest)
    (hr : decodeAll readGeometry fields = some r) :
    (geometryInRange r = false →
        exec (.geometryConfig dt) s = .next (s.replied dt rest 0x59#8 tag .badField .none)) ∧
      (¬geometryInRange r = false →
        exec (.geometryConfig dt) s =
          .next
            { s with
              now := s.now + dt
              settings := { s.settings with geometry := geometryApply r s.settings.geometry }
              clp := s.clp.answered rest 0x59#8 tag .done
                (.geometry (geometryApply r s.settings.geometry) s.ssu.record.reach s.ssu.record.tipValid) }) := by
  refine ⟨fun hg => (asked_decoded geometryOwner h hr).trans ?_,
    fun hg => (asked_decoded geometryOwner h hr).trans ?_⟩
  · rw [geometryOwner_of_bad hg, putReply_refuse]
  · rw [geometryOwner_of_good hg]
    exact congrArg _ (putReply_settings ..)

end Asked

/-- Settles O49, a request at a time. -/
theorem settingRequestsWriteSettings : Obligations.SettingRequestsWriteSettings := by
  intro s dt tag fields rest
  refine ⟨?_, ?_, ?_, ?_⟩
  · rintro r c h hr hs rfl
    exact exec_limiterConfig_asked h hr hs
  · intro r h hr
    refine ⟨fun ⟨x, hx, hbad⟩ => exec_ratedWrite_bad h hr hx hbad, fun hgood => ⟨readRated_length hr, ?_⟩⟩
    exact ⟨_, fun i x hx => ratedApply_getElem hx _, exec_ratedWrite_good h hr hgood⟩
  · intro r h hr
    refine ⟨exec_channelCalibration_none h hr, fun n hn => ⟨exec_channelCalibration_read h hr hn, ?_⟩⟩
    intro c good hc hgood
    rw [hgood, ← calOk_iff]
    exact exec_channelCalibration_write h hr hn hc
  · rintro r g bad h hr rfl hbad
    rw [hbad, ← geometryInRange_eq_false_iff]
    exact exec_geometryConfig_asked h hr

end Sys2Proof.Machine
end

section
/-! ### The restart and the state after reset -/

namespace Sys2Proof.Machine

open Sys2Proof

/-! #### The kind and the settings of a restart -/

theorem restartKindOf_eq_warm_iff (asked : Option RestartKind) (good : Bool) :
    restartKindOf asked good = .warm ↔ good = true ∧ asked ≠ some .cold := by
  simp [restartKindOf]

theorem coldSettings_of_current {slots : Vector (Option StoredImage) 2} {i : Fin 2} {m : StoredImage}
    (hcurrent : currentSlot slots = some i) (hslot : slots[i] = some m) : coldSettings slots = m.image := by
  unfold coldSettings
  rw [hcurrent, Option.bind_some, hslot]

theorem coldSettings_of_none {slots : Vector (Option StoredImage) 2} (h : currentSlot slots = none) :
    coldSettings slots = Settings.defaults := by
  simp [coldSettings, h]

/-! #### The restart values of the blocks, entry by entry -/

theorem restartSsu_getElem (g : Geometry) (n : Fin 9) :
    (restartSsu g).channels[n] = restartChannel ∧
      (restartSsu g).record.channels[n] = { state := .good, value := 0 } := by
  simp [restartSsu, restartScanRecord]

theorem restartEval_getElem (zones : Vector Zone 8) (i : Fin 8) :
    (restartEval zones).zones[i] = { bounds := none, membership := .unknown, armed := false } := by
  simp [restartEval]

theorem restartDsh_getElem (cfgs : Vector SectionSettings 6) (i : Fin 6) :
    (restartDsh cfgs)[i] = restartDshSection cfgs[i] := by
  simp [restartDsh]

theorem restartCds_getElem (cfgs : Vector SectionSettings 6) (i : Fin 6) :
    (restartCds cfgs).sections[i] = restartCdsSection cfgs[i] := by
  simp [restartCds]

/-- The slew factors of a restart: 0 when a STOP zone is enabled, else 1 000‰ (R108, R115). -/
theorem worstSlew_eq (zones : Vector Zone 8) :
    worstSlew zones = if ∃ i : Fin 8, zones[i].enable = true ∧ zones[i].kind = .stop then 0 else 1000 := by
  have hany : anyStopEnabled zones = true ↔ ∃ i : Fin 8, zones[i].enable = true ∧ zones[i].kind = .stop := by
    simp only [anyStopEnabled, List.any_eq_true, Vector.mem_toList_iff, Vector.mem_iff_getElem, Bool.and_eq_true,
      beq_iff_eq]
    constructor
    · rintro ⟨_, ⟨i, hi, rfl⟩, hstop⟩
      exact ⟨⟨i, hi⟩, hstop⟩
    · rintro ⟨i, hstop⟩
      exact ⟨zones[i], ⟨i, i.isLt, rfl⟩, hstop⟩
  simp only [worstSlew, hany]

theorem mem_enabledSlow {zones : Vector Zone 8} {x : Nat} :
    x ∈ (zones.toList.filter fun z => z.enable && z.kind == .slow).map Zone.slow ↔
      ∃ i : Fin 8, zones[i].enable = true ∧ zones[i].kind = .slow ∧ x = zones[i].slow := by
  simp only [List.mem_map, List.mem_filter, Vector.mem_toList_iff, Vector.mem_iff_getElem, Bool.and_eq_true, beq_iff_eq]
  constructor
  · rintro ⟨_, ⟨⟨i, hi, rfl⟩, henable, hkind⟩, rfl⟩
    exact ⟨⟨i, hi⟩, henable, hkind, rfl⟩
  · rintro ⟨i, henable, hkind, rfl⟩
    exact ⟨zones[i], ⟨⟨i, i.isLt, rfl⟩, henable, hkind⟩, rfl⟩

/-- The slow factor of a restart is the smallest of the enabled SLOW zones, 1 000‰ when there is none (R108, R115). -/
theorem worstSlow_spec (zones : Vector Zone 8) :
    (∀ i : Fin 8, zones[i].enable = true → zones[i].kind = .slow → worstSlow zones ≤ zones[i].slow) ∧
      (worstSlow zones = 1000 ∨
        ∃ i : Fin 8, zones[i].enable = true ∧ zones[i].kind = .slow ∧ worstSlow zones = zones[i].slow) := by
  obtain ⟨-, hle, hmem⟩ :=
    minFactor_spec ((zones.toList.filter fun z => z.enable && z.kind == .slow).map Zone.slow)
  exact ⟨fun i henable hkind => hle _ (mem_enabledSlow.2 ⟨i, henable, hkind, rfl⟩), hmem.imp id mem_enabledSlow.1⟩

/-! #### What a restart keeps and loads -/

/-- Every block of a restart of this kind, before SettingsDefaulted is latched. -/
abbrev restartedBlocks (kind : RestartKind) (s : State) : State := restartBlocks kind (settingsAfter kind s) s

theorem restartedBlocks_warm {kind : RestartKind} (h : kind = .warm) (s : State) :
    (restartedBlocks kind s).settings = s.settings ∧ (restartedBlocks kind s).lt = s.lt ∧
      (restartedBlocks kind s).wce.preArm = s.wce.preArm := by
  subst h
  exact ⟨rfl, rfl, rfl⟩

theorem restartedBlocks_cold {kind : RestartKind} (h : kind = .cold) (s : State) :
    (∀ (i : Fin 2) (m : StoredImage), currentSlot s.ssr.slots = some i → s.ssr.slots[i] = some m →
        (restartedBlocks kind s).settings = m.image) ∧
      (currentSlot s.ssr.slots = none → (restartedBlocks kind s).settings = Settings.defaults) ∧
      (restartedBlocks kind s).lt = coldTrip ∧ (restartedBlocks kind s).wce.preArm = false := by
  subst h
  exact ⟨fun i m hcurrent hslot => coldSettings_of_current hcurrent hslot, coldSettings_of_none, rfl, rfl⟩

/-! #### The restart as a whole -/

/-- A restart sets the settings to their defaults (R198). -/
abbrev RestartDefaults (asked : Option RestartKind) (s : State) : Prop :=
  restartKindOf asked s.ssr.retainedGood = .cold ∧ currentSlot s.ssr.slots = none

/-- The port after a restart that set the settings to their defaults (R191, R198). -/
abbrev defaultedClp (line : List Byte) : Clp :=
  { restartClp line with
    outbound := [.report 0 (.change .settingsDefaulted 0x8000#16)]
    reportNumber := 1
    changeSet := 0x8000#16 }

theorem restartClp_gain (line : List Byte) : (restartClp line).gain .settingsDefaulted = defaultedClp line := by
  have hset : 0#16 ||| ChangeSource.settingsDefaulted.mask = 0x8000#16 := by decide
  simp [Clp.gain, Clp.raise, restartClp, outboundMax, hset]

/-- A restart without defaults latches nothing. -/
theorem restarted_of_not_defaults {asked : Option RestartKind} {s : State} (h : ¬RestartDefaults asked s) :
    restarted asked s = restartedBlocks (restartKindOf asked s.ssr.retainedGood) s := by
  have hlatch : (restartKindOf asked s.ssr.retainedGood == .cold && (currentSlot s.ssr.slots).isNone) = false := by
    rw [Bool.eq_false_iff]
    simpa using h
  simp only [restarted, hlatch, latchIf_false]

/-- SettingsDefaulted is the first report when the settings were set to their defaults (R198). -/
theorem restarted_of_defaults {asked : Option RestartKind} {s : State} (h : RestartDefaults asked s) :
    restarted asked s =
      (restartedBlocks (restartKindOf asked s.ssr.retainedGood) s).setClp (defaultedClp s.clp.line) := by
  obtain ⟨hkind, hslot⟩ := h
  have hset : settingsAfter .cold s = Settings.defaults := coldSettings_of_none hslot
  simp only [restarted, restartedBlocks, hkind, hslot, hset, beq_self_eq_true, Option.isNone_none, Bool.and_self,
    latchIf_true]
  have henabled : (hasSource Settings.defaults.enables .settingsDefaulted &&
      !hasSource 0#16 .settingsDefaulted) = true := by decide
  rw [latch_eq]
  exact (if_pos henabled).trans (congrArg _ (restartClp_gain _))

/-- The restart event restarts a part whose main supply comes, and one whose Restart reply has been sent. -/
theorem restartTaken_of_asked {s : State} {asked : Option RestartKind}
    (h : (s.power.main = false ∧ asked = none) ∨
      (s.power.main = true ∧ ∃ k, s.clp.restart = some { kind := k, replySent := true } ∧ asked = some k)) :
    restartTaken s = restarted asked (s.setPower { s.power with main := true }) := by
  rcases h with ⟨hmain, rfl⟩ | ⟨hmain, k, hrestart, rfl⟩
  · simp [restartTaken, hmain]
  · have hpower : s.setPower { s.power with main := true } = s := by
      rw [← hmain]
      rfl
    simp [restartTaken, hmain, hrestart, hpower]

/-- In any other case the restart event changes nothing (log entry 2). -/
theorem restartTaken_of_not_asked {s : State} (hmain : s.power.main = true)
    (h : ∀ p, s.clp.restart = some p → p.replySent = false) : restartTaken s = s := by
  unfold restartTaken
  rw [if_pos hmain]
  split
  · next p hp => simp [h p hp]
  · rfl

/-- RESTART, when a restart takes place: the blocks of its kind, and a port that holds SettingsDefaulted or nothing. -/
theorem exec_restart_asked {s : State} {asked : Option RestartKind} (dt : Nat)
    (h : (s.power.main = false ∧ asked = none) ∨
      (s.power.main = true ∧ ∃ k, s.clp.restart = some { kind := k, replySent := true } ∧ asked = some k)) :
    ∃ c : Clp,
      exec (.restart dt) s =
          .next
            ((restartedBlocks (restartKindOf asked s.ssr.retainedGood)
              ((s.tick dt).setPower { s.power with main := true })).setClp c) ∧
        (RestartDefaults asked s → c = defaultedClp s.clp.line) ∧
        (¬RestartDefaults asked s → c = restartClp s.clp.line) := by
  have hexec : exec (.restart dt) s = .next (restarted asked ((s.tick dt).setPower { s.power with main := true })) :=
    congrArg Host.Outcome.next (restartTaken_of_asked (s := s.tick dt) h)
  rw [hexec]
  by_cases hdefaults : RestartDefaults asked s
  · exact ⟨_, congrArg _ (restarted_of_defaults hdefaults), fun _ => rfl, fun hn => absurd hdefaults hn⟩
  · exact ⟨_, congrArg _ (restarted_of_not_defaults hdefaults), fun hd => absurd hd hdefaults, fun _ => rfl⟩

/-- Settles O52: every clause is a restart value of `restartBlocks`, but for the kind, what it keeps or loads, the zones'
factors and the port. -/
theorem restartSetsBlocks : Obligations.RestartSetsBlocks := by
  intro s dt
  refine ⟨fun ⟨hmain, hnot⟩ =>
    congrArg Host.Outcome.next (restartTaken_of_not_asked (s := s.tick dt) hmain hnot), fun asked hasked => ?_⟩
  obtain ⟨c, hexec, hdefaulted, hplain⟩ := exec_restart_asked dt hasked
  refine ⟨_, RestartDefaults asked s, hexec, rfl, rfl, rfl, restartKindOf_eq_warm_iff _ _, rfl, rfl, rfl, rfl, rfl,
    Iff.rfl, fun hkind => restartedBlocks_warm hkind _, fun hkind => restartedBlocks_cold hkind _, restartSsu_getElem _,
    rfl, rfl, rfl, restartEval_getElem _, rfl, rfl, worstSlew_eq _, rfl, (worstSlow_spec _).1, (worstSlow_spec _).2, rfl,
    fun i => ⟨restartDsh_getElem _ i, restartCds_getElem _ i⟩, rfl, ?_, fun hd => ?_, fun hn => ?_⟩
  · by_cases hd : RestartDefaults asked s
    · rw [hdefaulted hd]
      rfl
    · rw [hplain hd]
      rfl
  · rw [hdefaulted hd]
    exact ⟨rfl, rfl, rfl⟩
  · rw [hplain hn]
    exact ⟨rfl, rfl, rfl⟩

/-! #### The default settings -/

theorem defaults_cal_getElem (n : Fin 9) : Settings.defaults.cal[n] = defaultCal n := by simp [Settings.defaults]

theorem defaults_zones_getElem (i : Fin 8) : Settings.defaults.zones[i] = defaultZone := by simp [Settings.defaults]

theorem defaults_sections_getElem (i : Fin 6) : Settings.defaults.sections[i] = defaultSection i := by
  simp [Settings.defaults]

theorem defaults_profiles_getElem (n : Fin 3) (k : Fin 16) :
    Settings.defaults.profiles[n][k] = 250 + 50 * k.val := by
  simp [Settings.defaults, defaultProfile]

/-- The default classes: MAIN B, OUTER B and TELE A raise the moment (R142). -/
theorem defaultSection_eq : ∀ i : Fin 6,
    defaultSection i =
      { mode := .regular, upStep := 20, downStep := 40, stopMode := .soft
        classA := if i = 3 then .raising else .neutral, classB := if i = 1 ∨ i = 2 then .raising else .neutral
        range := .full, startIndex := 0, stepDivider := 10, endMode := .autostop, deadTime := 2, iMin := 300
        iMax := 1200 } := by decide

/-- Every default setting lies in its range. -/
theorem defaults_sound : Settings.defaults.Sound := by
  have hcal : ∀ n : Fin 9, calOk n (defaultCal n) := by decide
  have hzone : defaultZone.Sound := by decide
  have hsection : ∀ i : Fin 6, (defaultSection i).Sound := by decide
  have hrated : ∀ i : Fin 9, inRange 1000 999999 defaultRated[i] := by decide
  refine ⟨fun n => ?_, by decide, by decide, by decide, by decide, by decide, nofun, by decide, by decide, fun i => ?_,
    by decide, hrated, fun i => ?_, by decide, by decide, by decide, fun n k => ?_⟩
  · rw [defaults_cal_getElem]
    exact hcal n
  · rw [defaults_zones_getElem]
    exact hzone
  · rw [defaults_sections_getElem]
    exact hsection i
  · rw [defaults_profiles_getElem]
    omega

/-! #### The restart values are sound -/

theorem coldTrip_sound : coldTrip.Sound := by
  refine ⟨fun a d _ => ?_, by decide, Nat.zero_le _, .nil, nofun, Nat.zero_le _⟩
  have hempty : coldTrip.table[a].dir d = emptyTotals := by cases d <;> simp [coldTrip, emptyEntry, TallyEntry.dir]
  rw [hempty]
  exact ⟨rfl, rfl, rfl⟩

theorem restartCds_sound (cfgs : Vector SectionSettings 6) : (restartCds cfgs).Sound := by
  refine ⟨rfl, by simp [restartCds], by simp [restartCds], nofun, by simp [restartCds], by simp [restartCds],
    fun _ i => ?_, fun i => ?_⟩ <;> rw [restartCds_getElem]
  · rfl
  · simp [restartCdsSection]

theorem restartWlc_sound (now : Nat) (detectLine : Bool) : (restartWlc now detectLine).Sound := by
  simp [Wlc.Sound, restartWlc, linkFits, sentFits]

/-- No coil is driven after a restart. -/
theorem restartBlocks_coilsSound (kind : RestartKind) (set : Settings) (s : State) :
    (restartBlocks kind set s).CoilsSound := by
  intro i
  have hdsh : (restartBlocks kind set s).dsh[i] = restartDshSection set.sections[i] := restartDsh_getElem _ i
  have hcds : (restartBlocks kind set s).cds.sections[i] = restartCdsSection set.sections[i] := restartCds_getElem _ i
  rw [hdsh, hcds]
  simp [restartDshSection, restartCdsSection, SectionState.coil, SectionState.drives]

theorem worstSlew_le (zones : Vector Zone 8) : worstSlew zones ≤ 1000 := by
  unfold worstSlew
  split <;> omega

theorem restartBlocks_magnitudesSound (kind : RestartKind) (set : Settings) (s : State) :
    (restartBlocks kind set s).MagnitudesSound := by
  refine ⟨(minFactor_spec _).1, worstSlew_le _, worstSlew_le _, Nat.zero_le _, fun i => ?_⟩
  have hdsh : (restartBlocks kind set s).dsh[i] = restartDshSection set.sections[i] := restartDsh_getElem _ i
  rw [hdsh]
  simp [restartDshSection, restartSectionRecord]

/-- The engine is IDLE after a restart, with no capture and no tare. -/
theorem restartBlocks_engineSound (kind : RestartKind) (set : Settings) (s : State) :
    (restartBlocks kind set s).EngineSound := by
  simp [State.EngineSound, restartBlocks, restartWce, restartWlc, restartTare, Wce.capturing]

theorem resetSsr_sound : resetSsr.Sound := by
  refine ⟨by simp [resetSsr], nofun, fun i m hm => ?_, fun _ i => ?_, nofun⟩
  · simp [resetSsr] at hm
  · simp [resetSsr]

/-! #### The state after reset -/

theorem reset_settingsSound : State.reset.SettingsSound := by
  refine ⟨defaults_sound, fun i m hm => ?_, nofun⟩
  simp [State.reset, resetSsr] at hm

/-- Settles O3: the blocks hold their restart values, and the settings their defaults. -/
theorem resetValues : Obligations.ResetValues := by
  have htable (a : Fin 16) : State.reset.lt.table[a] = emptyEntry := by simp [State.reset, coldTrip]
  have hslots (i : Fin 2) : State.reset.ssr.slots[i] = none := by simp [State.reset, resetSsr]
  have hsections (i : Fin 6) :
      State.reset.dsh[i] = restartDshSection (defaultSection i) ∧
        State.reset.cds.sections[i] = restartCdsSection (defaultSection i) := by
    simp [State.reset, restartDsh, restartCds]
  refine ⟨restartSsu_getElem _, rfl, rfl, rfl, rfl, htable, by decide, restartEval_getElem _, rfl, by decide,
    by decide, by decide, rfl, rfl, hsections, rfl, rfl, fun n => ?_, by decide, rfl, rfl, rfl, rfl, rfl,
    defaults_zones_getElem, rfl, by decide, fun i => ?_, rfl, defaults_profiles_getElem, by decide, rfl, rfl, hslots, rfl,
    rfl, rfl⟩
  · have hcal : State.reset.settings.cal[n] = defaultCal n := defaults_cal_getElem n
    rw [hcal]
    exact ⟨rfl, rfl⟩
  · exact (defaults_sections_getElem i).trans (defaultSection_eq i)

/-- Settles O4, a block at a time. -/
theorem resetIsSound : Obligations.ResetIsSound := by
  refine ⟨coldTrip_sound, restartCds_sound _, restartBlocks_coilsSound .cold Settings.defaults State.reset,
    reset_settingsSound, restartBlocks_magnitudesSound .cold Settings.defaults State.reset, restartWlc_sound _ _,
    restartBlocks_engineSound .cold Settings.defaults State.reset, ⟨nofun, nofun, nofun⟩, by decide, by decide,
    resetSsr_sound, restartLimiter_sound, restartSsu_sound _⟩

end Sys2Proof.Machine
end

section
/-! ### What the commands away from the weigh link and the engine leave of them -/

namespace Sys2Proof.Machine

open Sys2Proof

/-- The weigh link, the engine and the calibration record: the part of the state that the soundness of O9 speaks of. -/
def State.weigh (s : State) : Wlc × Wce × CalRecord := (s.wlc, s.wce, s.settings.calRecord)

section Updates

variable (s : State)

@[simp] theorem State.setLt_weigh (x : Trip) : (s.setLt x).weigh = s.weigh := rfl
@[simp] theorem State.setDsh_weigh (x : Vector DshSection 6) : (s.setDsh x).weigh = s.weigh := rfl
@[simp] theorem State.setCds_weigh (x : Cds) : (s.setCds x).weigh = s.weigh := rfl
@[simp] theorem State.setClp_weigh (x : Clp) : (s.setClp x).weigh = s.weigh := rfl
@[simp] theorem State.setSsr_weigh (x : Ssr) : (s.setSsr x).weigh = s.weigh := rfl
@[simp] theorem State.publishCds_weigh (c : Cds) : (s.publishCds c).weigh = s.weigh := rfl
@[simp] theorem raiseReport_weigh (r : Report) : (raiseReport r s).weigh = s.weigh := rfl
@[simp] theorem putReply_weigh (place : Nat) (f : InFrame) (a : Answer) :
    (putReply place f a).weigh = a.state.weigh := rfl
@[simp] theorem takeFrame_weigh (f : InFrame) (rest : List InFrame) : (takeFrame f rest s).weigh = s.weigh := rfl

/-- New settings with the same calibration record. -/
@[simp] theorem State.setSettings_weigh (x : Settings) (h : x.calRecord = s.settings.calRecord) :
    (s.setSettings x).weigh = s.weigh := by
  simp [State.weigh, h]

@[simp] theorem State.ite_weigh (p : Prop) [Decidable p] (a b : State) :
    (if p then a else b).weigh = if p then a.weigh else b.weigh := apply_ite State.weigh p a b

@[simp] theorem latchIf_weigh (b : Bool) (src : ChangeSource) : (latchIf b src s).weigh = s.weigh := by
  simp [State.weigh]

@[simp] theorem latch_weigh (src : ChangeSource) : (latch src s).weigh = s.weigh := latchIf_weigh s true src

end Updates

/-! #### The tally, the drive period, the supply, the scan and the store -/

section Events

variable (s : State)

@[simp] theorem payloadTest_weigh (before : PayloadState) : (payloadTest before s).weigh = s.weigh := by
  simp [payloadTest]

@[simp] theorem fileLift_weigh (d : LiftDirection) (a : Fin 16) (mass : Option Nat) (flags : LiftFlags) :
    (fileLift d a mass flags s).1.weigh = s.weigh := by
  unfold fileLift
  split <;> simp

@[simp] theorem lockSupply_weigh (cause : LockCause) : (lockSupply cause s).weigh = s.weigh := by simp [lockSupply]

@[simp] theorem lockUnlessLocked_weigh (cause : LockCause) : (lockUnlessLocked cause s).weigh = s.weigh := by
  simp [lockUnlessLocked]

@[simp] theorem driveSupply_weigh (halt : Bool) : (driveSupply halt s).weigh = s.weigh := by
  simp [driveSupply, wakeSupply]

theorem supplySettleExpired_weigh : (supplySettleExpired s).weigh = s.weigh := by simp [supplySettleExpired]

theorem idleTimerExpired_weigh : (idleTimerExpired s).weigh = s.weigh := by simp [idleTimerExpired]

theorem drivePeriodTaken_weigh (currents : Vector Nat 6) : (drivePeriodTaken currents s).weigh = s.weigh := by
  simp [drivePeriodTaken, publishSections, coilsAll, judgeAll, shapeAll]

theorem driverTripped_weigh (v : ValveSection) : (driverTripped v s).weigh = s.weigh := by simp [driverTripped]

theorem scanned_weigh (raw : Vector Nat 9) : (scanned raw s).weigh = s.weigh := by
  rw [scanned_frame]
  rfl

theorem gapExpired_weigh : (gapExpired s).weigh = s.weigh := by
  unfold gapExpired
  split <;> simp

theorem frameSent_weigh : (frameSent s).weigh = s.weigh := by
  unfold frameSent
  split <;> simp

theorem unknownTaken_weigh : (unknownTaken s).weigh = s.weigh := by
  unfold unknownTaken
  split <;> simp

theorem storeCompleted_weigh (checkMatches : Bool) : (storeCompleted checkMatches s).weigh = s.weigh := by
  unfold storeCompleted
  split <;> simp

end Events

/-! #### The requests of the other owners -/

section Requests

variable (s : State)

theorem statusOwner_weigh (page : Nat) : (statusOwner page s).state.weigh = s.weigh := by
  unfold statusOwner
  split <;> rfl

theorem readChangesOwner_weigh (u : Unit) : (readChangesOwner u s).state.weigh = s.weigh := by
  unfold readChangesOwner
  split <;> rfl

theorem sectionConfigOwner_weigh (r : SectionConfigRequest) : (sectionConfigOwner r s).state.weigh = s.weigh := by
  unfold sectionConfigOwner
  split <;> simp [sectionConfigured]

theorem profileOwner_weigh (r : ProfileRequest) : (profileOwner r s).state.weigh = s.weigh := by
  unfold profileOwner
  split
  · rfl
  · split <;> simp [profileWritten]

theorem releaseOwner_weigh (u : Unit) : (releaseOwner u s).state.weigh = s.weigh := by
  simp [releaseOwner, released]

theorem faultClearOwner_weigh (selector : Nat) : (faultClearOwner selector s).state.weigh = s.weigh := by
  simp [faultClearOwner, faultsCleared]

theorem captureOwner_weigh (r : CaptureRequest) : (captureOwner r s).state.weigh = s.weigh := by simp [captureOwner]

theorem storeOwner_weigh (u : Unit) : (storeOwner u s).state.weigh = s.weigh := by
  unfold storeOwner
  split <;> rfl

theorem zoneWriteOwner_weigh (r : ZoneWriteRequest) : (zoneWriteOwner r s).state.weigh = s.weigh := by
  unfold zoneWriteOwner
  split <;> simp [State.putZone]

theorem zoneEnableOwner_weigh (r : ZoneEnableRequest) : (zoneEnableOwner r s).state.weigh = s.weigh := by
  unfold zoneEnableOwner
  split <;> simp [State.putZone]

theorem zoneReadOwner_weigh (n : Nat) : (zoneReadOwner n s).state.weigh = s.weigh := by
  unfold zoneReadOwner
  split <;> rfl

theorem limiterOwner_weigh (r : LimiterRequest) : (limiterOwner r s).state.weigh = s.weigh := by
  simp [limiterOwner, limiterConfigured]

theorem ratedOwner_weigh (r : List (Option Nat)) : (ratedOwner r s).state.weigh = s.weigh := by
  simp [ratedOwner, ratedWritten]

theorem channelOwner_weigh (r : ChannelRequest) : (channelOwner r s).state.weigh = s.weigh := by
  unfold channelOwner
  split
  · rfl
  · split <;> simp [calibrated]

theorem geometryOwner_weigh (r : GeometryRequest) : (geometryOwner r s).state.weigh = s.weigh := by
  simp [geometryOwner, geometryConfigured]

theorem assortmentOwner_weigh (r : Option Nat) : (assortmentOwner r s).state.weigh = s.weigh := by
  unfold assortmentOwner
  split
  · rfl
  · split <;> simp

theorem readLiftsOwner_weigh (r : ReadLiftsRequest) : (readLiftsOwner r s).state.weigh = s.weigh := by
  simp [readLiftsOwner]

theorem readTotalsOwner_weigh (r : ReadTotalsRequest) : (readTotalsOwner r s).state.weigh = s.weigh := by
  unfold readTotalsOwner
  split
  · rfl
  · split
    · rfl
    · split <;> simp

theorem undoLastOwner_weigh (u : Unit) : (undoLastOwner u s).state.weigh = s.weigh := by
  unfold undoLastOwner
  split <;> simp

theorem correctOwner_weigh (r : CorrectRequest) : (correctOwner r s).state.weigh = s.weigh := by
  unfold correctOwner
  split
  · rfl
  · split <;> simp

theorem reassignOwner_weigh (r : ReassignRequest) : (reassignOwner r s).state.weigh = s.weigh := by
  unfold reassignOwner
  split
  · split <;> simp
  · rfl

theorem manualLiftOwner_weigh (r : ManualRequest) : (manualLiftOwner r s).state.weigh = s.weigh := by
  unfold manualLiftOwner
  split
  · rename_i a _ _
    have filed := fileLift_weigh s r.direction a r.mass manualFlags
    split
    · rename_i s1 ans e
      simpa [e] using filed
    · rfl
  · rfl

theorem payloadLimitOwner_weigh (r : Option Nat) : (payloadLimitOwner r s).state.weigh = s.weigh := by
  unfold payloadLimitOwner
  split <;> simp

end Requests

end Sys2Proof.Machine
end

section
/-! ### The soundness of the weigh link and of the engine, taken apart -/

namespace Sys2Proof.Machine

open Sys2Proof

/-- The part of the engine's soundness that the engine's own fields decide (R47, R54, R57, R65). -/
structure Wce.Sound (e : Wce) : Prop where
  held : e.held.isSome ↔ e.state = .held
  origin : e.origin.isSome ↔ e.state ≠ .idle
  suspend : e.suspendDue.isSome ↔ e.state = .suspended
  window_le : e.window.length ≤ 32
  window_nil : ¬e.capturing → e.window = []
  grip : e.grip ≤ 65535

/-- The bounds of the link that hold in every link state (R28, R31, R34, R37). -/
structure Wlc.Bounded (w : Wlc) : Prop where
  history : w.history.length ≤ 2
  failures : w.failures ≤ 3
  nextPoll : w.nextPoll ≤ 65535

/-- The invariant of O9. -/
abbrev State.WeighSound (s : State) : Prop := s.wlc.Sound ∧ s.EngineSound

theorem State.engineSound_iff (s : State) :
    s.EngineSound ↔ s.wce.Sound ∧ (s.wce.capturing → s.wlc.state = .running ∧ s.calValid) ∧
      (s.wlc.tare.state = .running → s.wlc.state = .running ∧ s.wce.state = .idle) := by
  constructor
  · rintro ⟨hheld, horigin, hsuspend, hle, hnil, hgrip, hcapture, htare⟩
    exact ⟨⟨hheld, horigin, hsuspend, hle, hnil, hgrip⟩, hcapture, htare⟩
  · rintro ⟨⟨hheld, horigin, hsuspend, hle, hnil, hgrip⟩, hcapture, htare⟩
    exact ⟨hheld, horigin, hsuspend, hle, hnil, hgrip, hcapture, htare⟩

section Parts

variable {s t : State} {w : Wlc}

theorem State.EngineSound.wce (h : s.EngineSound) : s.wce.Sound := ((s.engineSound_iff).1 h).1

theorem State.EngineSound.capture (h : s.EngineSound) (hc : s.wce.capturing) : s.wlc.state = .running ∧ s.calValid :=
  ((s.engineSound_iff).1 h).2.1 hc

theorem State.EngineSound.tare (h : s.EngineSound) (ht : s.wlc.tare.state = .running) :
    s.wlc.state = .running ∧ s.wce.state = .idle :=
  ((s.engineSound_iff).1 h).2.2 ht

/-- Soundness is a property of the link, the engine and the calibration record alone. -/
theorem State.EngineSound.congr (h : s.EngineSound) (e : t.weigh = s.weigh) : t.EngineSound := by
  simp only [State.weigh, Prod.mk.injEq] at e
  obtain ⟨hwlc, hwce, hcal⟩ := e
  simpa only [State.EngineSound, State.calValid, hwlc, hwce, hcal] using h

theorem State.WeighSound.congr (h : s.WeighSound) (e : t.weigh = s.weigh) : t.WeighSound := by
  have hwlc : t.wlc = s.wlc := congrArg Prod.fst e
  exact ⟨hwlc ▸ h.1, h.2.congr e⟩

/-- With no capture and no tare the engine's own fields decide its soundness. -/
theorem Wce.Sound.engineSound (he : s.wce.Sound) (hc : ¬s.wce.capturing) (ht : s.wlc.tare.state ≠ .running) :
    s.EngineSound :=
  (s.engineSound_iff).2 ⟨he, (absurd · hc), (absurd · ht)⟩

/-- Away from RUNNING neither a capture nor a tare runs (R61, R42). -/
theorem State.EngineSound.quiet (h : s.EngineSound) (hr : s.wlc.state ≠ .running) :
    ¬s.wce.capturing ∧ s.wlc.tare.state ≠ .running :=
  ⟨fun hc => hr (h.capture hc).1, fun ht => hr (h.tare ht).1⟩

/-- A move of the link that keeps RUNNING with its head, and the tare, leaves the engine sound. -/
theorem State.EngineSound.setWlc (h : s.EngineSound) (ht : w.tare = s.wlc.tare)
    (hr : s.wlc.state = .running → w.state = .running ∧ w.identity = s.wlc.identity) : (s.setWlc w).EngineSound := by
  refine (State.engineSound_iff _).2 ⟨h.wce, fun hc => ?_, fun htare => ?_⟩
  · obtain ⟨hrun, hvalid⟩ := h.capture hc
    obtain ⟨hstate, hid⟩ := hr hrun
    refine ⟨hstate, ?_⟩
    simpa [State.calValid, hid] using hvalid
  · simp only [State.setWlc_wlc, ht] at htare
    exact ⟨(hr (h.tare htare).1).1, (h.tare htare).2⟩

/-- A move of the engine that starts no capture and leaves IDLE alone keeps it sound. -/
theorem State.EngineSound.setWce (h : s.EngineSound) {e : Wce} (he : e.Sound)
    (hc : e.capturing → s.wce.capturing) (hi : s.wce.state = .idle → e.state = .idle) : (s.setWce e).EngineSound :=
  (State.engineSound_iff _).2 ⟨he, fun hcap => h.capture (hc hcap), fun ht => ⟨(h.tare ht).1, hi (h.tare ht).2⟩⟩

theorem Wlc.Sound.bounded (h : w.Sound) : w.Bounded := by
  obtain ⟨-, -, -, -, -, -, -, hhistory, hfailures, -, -, hpoll, -⟩ := h
  exact ⟨hhistory, hfailures, hpoll⟩

/-- Outside RUNNING no sample and no force is held (R31, R32). -/
theorem Wlc.Sound.cleared (h : w.Sound) (hr : w.state ≠ .running) : w.latest = none ∧ w.ring = [] := by
  obtain ⟨-, -, -, hlatest, hring, -⟩ := h
  constructor
  · by_contra hne
    exact hr (hlatest (Option.isSome_iff_ne_none.2 hne))
  · by_contra hne
    exact hr (hring hne)

/-- Outside FAILED no cause stands (R35). -/
theorem Wlc.Sound.uncaused (h : w.Sound) (hf : w.state ≠ .failed) : w.cause = .none := by
  obtain ⟨-, -, -, -, -, -, hcause, -⟩ := h
  by_contra hne
  exact hf (hcause.1 hne)

/-- Away from ABSENT a head is on the link (R22). -/
theorem Wlc.Sound.detected (h : w.Sound) (hs : w.state ≠ .absent) : w.detect = true := by
  obtain ⟨-, -, -, -, -, -, -, -, -, -, -, -, habsent⟩ := h
  exact Bool.eq_true_of_not_eq_false fun hd => hs (habsent hd)

end Parts

/-! #### What an activity says of the link's state -/

section Activities

variable {st : LinkState} {on : Bool}

theorem linkFits_offTime {x : Nat} : linkFits st on (.offTime x) ↔ st = .powering ∧ on = false := by
  cases st <;> cases on <;> simp [linkFits]

theorem linkFits_settling {x : Nat} : linkFits st on (.settling x) ↔ st = .powering ∧ on = true := by
  cases st <;> cases on <;> simp [linkFits]

theorem linkFits_reading {x : Nat} : linkFits st on (.reading x) ↔ st = .identifying ∧ on = true := by
  cases st <;> cases on <;> simp [linkFits]

theorem linkFits_retryWait {x : Nat} : linkFits st on (.retryWait x) ↔ st = .identifying ∧ on = true := by
  cases st <;> cases on <;> simp [linkFits]

theorem linkFits_polling {n x : Nat} : linkFits st on (.polling n x) ↔ st = .running ∧ on = true := by
  cases st <;> cases on <;> simp [linkFits]

theorem linkFits_pollWait {x : Nat} : linkFits st on (.pollWait x) ↔ st = .running ∧ on = true := by
  cases st <;> cases on <;> simp [linkFits]

theorem linkFits_lineRelease {x : Nat} : linkFits st on (.lineRelease x) ↔ st = .recovering ∧ on = true := by
  cases st <;> cases on <;> simp [linkFits]

theorem linkFits_pulsing {k x : Nat} :
    linkFits st on (.pulsing k x) ↔ st = .recovering ∧ on = true ∧ 1 ≤ k ∧ k ≤ 9 := by
  cases st <;> cases on <;> simp [linkFits]

end Activities

end Sys2Proof.Machine
end

section
/-! ### The engine and the tare stay sound under their own events -/

namespace Sys2Proof.Machine

open Sys2Proof

variable {s : State}

/-! #### The ends of a tare -/

section TareEnds

variable (s : State) (st : TareState) (reason : TareReason)

@[simp] theorem endTare_wlc : (endTare st s).wlc = { s.wlc with tare := { s.wlc.tare with state := st } } := by
  simp [endTare]

@[simp] theorem endTare_wce : (endTare st s).wce = s.wce := by simp [endTare]
@[simp] theorem endTare_settings : (endTare st s).settings = s.settings := by simp [endTare]
@[simp] theorem endTare_now : (endTare st s).now = s.now := by simp [endTare]

theorem failTare_of_running (h : s.wlc.tare.state = .running) : failTare reason s = endTare (.failed reason) s :=
  if_pos h

theorem failTare_of_not_running (h : s.wlc.tare.state ≠ .running) : failTare reason s = s := if_neg h

/-- The end of a tare changes the tare alone of the link. -/
theorem failTare_wlc : (failTare reason s).wlc = { s.wlc with tare := (failTare reason s).wlc.tare } := by
  unfold failTare
  split <;> simp

@[simp] theorem failTare_wce : (failTare reason s).wce = s.wce := by
  unfold failTare
  split <;> simp

@[simp] theorem failTare_settings : (failTare reason s).settings = s.settings := by
  unfold failTare
  split <;> simp

@[simp] theorem failTare_wlc_state : (failTare reason s).wlc.state = s.wlc.state := by rw [failTare_wlc]
@[simp] theorem failTare_wlc_identity : (failTare reason s).wlc.identity = s.wlc.identity := by rw [failTare_wlc]

theorem failTare_stops : (failTare reason s).wlc.tare.state ≠ .running := by
  unfold failTare
  split
  · simp
  · assumption

end TareEnds

/-- The link's own soundness does not look at the tare. -/
theorem Wlc.Sound.setTare {w : Wlc} (h : w.Sound) (t : Tare) : Wlc.Sound { w with tare := t } := h

theorem failTare_engineSound (reason : TareReason) (h : s.EngineSound) : (failTare reason s).EngineSound := by
  refine (State.engineSound_iff _).2 ⟨?_, fun hc => ?_, (absurd · (failTare_stops s reason))⟩
  · simpa using h.wce
  · obtain ⟨hrun, hvalid⟩ := h.capture (by simpa using hc)
    exact ⟨by simpa using hrun, by simpa [State.calValid] using hvalid⟩

theorem failTare_weighSound (reason : TareReason) (h : s.WeighSound) : (failTare reason s).WeighSound := by
  refine ⟨?_, failTare_engineSound reason h.2⟩
  rw [failTare_wlc]
  exact h.1.setTare _

/-! #### The engine's states -/

theorem Wce.capturing_iff (e : Wce) : e.capturing ↔ e.state = .collecting ∨ e.state = .suspended := by
  simp [Wce.capturing]

/-- A capture's end leaves a pending lift in HELD, and no capture (R65). -/
theorem endCapture_wceSound (outcome : CaptureOutcome) (below : Bool) (h : s.wce.Sound) (hc : s.wce.capturing) :
    (endCapture outcome below s).wce.Sound where
  held := by simp [endCapture]
  origin := by
    have hopen : s.wce.state ≠ .idle := by rcases (Wce.capturing_iff _).1 hc with e | e <;> simp [e]
    simpa [endCapture] using h.origin.2 hopen
  suspend := by simp [endCapture]
  window_le := by simp [endCapture]
  window_nil := by simp [endCapture]
  grip := h.grip

theorem endCapture_not_capturing (outcome : CaptureOutcome) (below : Bool) (s : State) :
    ¬(endCapture outcome below s).wce.capturing := by
  simp [endCapture, Wce.capturing]

theorem endCapture_engineSound (outcome : CaptureOutcome) (below : Bool) (h : s.EngineSound) (hc : s.wce.capturing) :
    (endCapture outcome below s).EngineSound := by
  have hidle : s.wce.state ≠ .idle := by rcases (Wce.capturing_iff _).1 hc with e | e <;> simp [e]
  exact (h.setWce (endCapture_wceSound outcome below h.wce hc) (fun _ => hc) (absurd · hidle)).congr rfl

theorem endCapture_weighSound (outcome : CaptureOutcome) (below : Bool) (h : s.WeighSound) (hc : s.wce.capturing) :
    (endCapture outcome below s).WeighSound :=
  ⟨h.1, endCapture_engineSound outcome below h.2 hc⟩

/-- The departure of the link ends a running tare and a running capture, so that whatever the link was, the engine is
sound after it (R42, R61). -/
theorem linkLeft_weighSound (hw : s.wlc.Sound) (he : s.wce.Sound) : (linkLeft s).WeighSound := by
  have htare := failTare_stops s .link
  have hwlc : (failTare .link s).wlc.Sound := by
    rw [failTare_wlc]
    exact hw.setTare _
  have hwce : (failTare .link s).wce.Sound := by simpa using he
  unfold linkLeft engineLinkLeft
  split
  · rename_i hc
    exact ⟨hwlc, (endCapture_wceSound _ _ hwce hc).engineSound (endCapture_not_capturing _ _ _) htare⟩
  · rename_i hc
    exact ⟨hwlc, hwce.engineSound hc htare⟩

/-! #### Samples -/

theorem evaluateWindow_engineSound (h : s.EngineSound) (hc : s.wce.capturing) : (evaluateWindow s).EngineSound := by
  unfold evaluateWindow
  split
  · exact endCapture_engineSound _ _ h hc
  · split
    · obtain ⟨hheld, horigin, hsuspend, hle, hnil, hgrip⟩ := h.wce
      exact h.setWce ⟨hheld, horigin, hsuspend, hle, hnil, hgrip⟩ id id
    · exact endCapture_engineSound _ _ h hc

theorem acceptSample_engineSound (poll : Nat) (force : Int) (h : s.EngineSound) (hc : s.wce.capturing) :
    (acceptSample poll force s).EngineSound := by
  have hjoined : (s.setWce { s.wce with
      window := ringPush 32 s.wce.window { poll := poll, force := force }
      remaining := s.wce.remaining - 1
      accepted := s.wce.accepted + 1 }).EngineSound := by
    obtain ⟨hheld, horigin, hsuspend, -, -, hgrip⟩ := h.wce
    exact h.setWce ⟨hheld, horigin, hsuspend, ringPush_length _ _ _, absurd hc, hgrip⟩ id id
  unfold acceptSample
  dsimp only
  split
  · exact evaluateWindow_engineSound hjoined hc
  · exact hjoined

theorem rejectSample_engineSound (h : s.EngineSound) (hc : s.wce.capturing) : (rejectSample s).EngineSound := by
  have hcounted : (s.setWce { s.wce with rejects := s.wce.rejects + 1 }).EngineSound := by
    obtain ⟨hheld, horigin, hsuspend, hle, hnil, hgrip⟩ := h.wce
    exact h.setWce ⟨hheld, horigin, hsuspend, hle, hnil, hgrip⟩ id id
  unfold rejectSample
  dsimp only
  split
  · exact endCapture_engineSound _ _ hcounted hc
  · exact hcounted

theorem engineSample_engineSound (x : Sample) (h : s.EngineSound) : (engineSample x s).EngineSound := by
  unfold engineSample
  split
  · rename_i hstate
    have hc : s.wce.capturing := (Wce.capturing_iff _).2 (.inl hstate)
    split
    · exact acceptSample_engineSound _ _ h hc
    · exact rejectSample_engineSound h hc
  · exact h

/-! #### The lift trigger -/

/-- A capture starts only with the link RUNNING and the record valid (R53). -/
theorem triggerArmed_weighSound (h : s.WeighSound) : (triggerArmed s).WeighSound := by
  unfold triggerArmed
  split
  · rename_i htrigger
    have harmed : s.wce.state = .armed := by simp_all
    obtain ⟨hheld, horigin, hsuspend, hle, hnil, hgrip⟩ := h.2.wce
    have hread : (s.setWce { s.wce with validityRead := s.calValid }).EngineSound :=
      h.2.setWce ⟨hheld, horigin, hsuspend, hle, hnil, hgrip⟩ id id
    dsimp only
    split
    · rename_i hready
      obtain ⟨hrun, hvalid⟩ : s.wlc.state = .running ∧ s.calValid = true := by simpa using hready
      refine ⟨h.1, (State.engineSound_iff _).2
        ⟨⟨?_, ?_, ?_, Nat.zero_le _, fun _ => rfl, hgrip⟩, fun _ => ⟨hrun, hvalid⟩, fun ht => ?_⟩⟩
      · simpa [startCapture, harmed] using hheld
      · simpa [startCapture, harmed] using horigin
      · simpa [startCapture, harmed] using hsuspend
      · exact absurd (h.2.tare ht).2 (by simp [harmed])
    · exact ⟨h.1, hread⟩
  · exact h

theorem liftConditions_weighSound (h : s.WeighSound) : (liftConditions s).WeighSound := by
  obtain ⟨hheld, horigin, hsuspend, hle, hnil, hgrip⟩ := h.2.wce
  unfold liftConditions
  split
  case h_1 => exact triggerArmed_weighSound h
  case h_2 hstate =>
    split
    · refine ⟨h.1, h.2.setWce ⟨?_, ?_, ?_, hle, ?_, hgrip⟩ ?_ ?_⟩ <;> simp_all [Wce.capturing]
    · exact h
  case h_3 hstate =>
    split
    · exact h
    · refine ⟨h.1, h.2.setWce ⟨?_, ?_, ?_, hle, ?_, hgrip⟩ ?_ ?_⟩ <;> simp_all [Wce.capturing]
  all_goals exact h

/-! #### Closure and release -/

theorem nextGrip_le (g : Nat) : nextGrip g ≤ 65535 := by
  unfold nextGrip
  split <;> omega

/-- A grip opens after the tare has ended (R47, R42). -/
theorem closureEvent_weighSound (h : s.WeighSound) : (closureEvent s).WeighSound := by
  unfold closureEvent
  split
  · rename_i hidle
    have hended := failTare_weighSound .disturbed h
    obtain ⟨hheld, horigin, hsuspend, hle, hnil, hgrip⟩ := hended.2.wce
    refine ⟨hended.1, (State.engineSound_iff _).2 ⟨⟨?_, ?_, ?_, hle, fun _ => ?_, nextGrip_le _⟩, fun hc => ?_,
      (absurd · (failTare_stops s .disturbed))⟩⟩
    · dsimp only [State.setWce_wce]
      split <;> simpa [hidle] using hheld
    · dsimp only [State.setWce_wce]
      split <;> simp
    · dsimp only [State.setWce_wce]
      split <;> simpa [hidle] using hsuspend
    · exact hnil (by simp [Wce.capturing, hidle])
    · simp only [Wce.capturing, State.setWce_wce] at hc
      split at hc <;> simp at hc
  · exact h

theorem closureTest_weighSound (h : s.WeighSound) : (closureTest s).WeighSound := by
  have hrun (run : Option Nat) : (s.setWce { s.wce with closureRun := run }).WeighSound := by
    obtain ⟨hheld, horigin, hsuspend, hle, hnil, hgrip⟩ := h.2.wce
    exact ⟨h.1, h.2.setWce ⟨hheld, horigin, hsuspend, hle, hnil, hgrip⟩ id id⟩
  unfold closureTest
  split
  · split
    · exact h
    · exact hrun _
  · split
    · exact h
    · dsimp only
      split
      · exact closureEvent_weighSound (hrun _)
      · exact hrun _

@[simp] theorem handOver_weigh (origin drop : BunkMembership) (s : State) :
    (handOver origin drop s).1.weigh = s.weigh := by
  unfold handOver
  split <;> simp

/-- A grip closes with no capture running: what was captured before it stands in HELD (R69). -/
theorem gripClosed_weighSound (h : s.WeighSound) (hc : ¬s.wce.capturing) :
    (s.setWce { s.wce with held := none, origin := none, state := .idle }).WeighSound := by
  obtain ⟨-, -, hsuspend, hle, hnil, hgrip⟩ := h.2.wce
  have hsuspended : s.wce.state ≠ .suspended := fun e => hc ((Wce.capturing_iff _).2 (.inr e))
  refine ⟨h.1, h.2.setWce ⟨?_, ?_, ?_, hle, fun _ => hnil hc, hgrip⟩ ?_ ?_⟩
  · simp
  · simp
  · simpa [hsuspended] using hsuspend
  · simp [Wce.capturing]
  · simp

theorem closeGrip_weighSound (h : s.WeighSound) (hc : ¬s.wce.capturing) : (closeGrip s).WeighSound := by
  have hsame := handOver_weigh s.wce.originOf s.evm.bunk s
  have hwce : (handOver s.wce.originOf s.evm.bunk s).1.wce = s.wce := congrArg (·.2.1) hsame
  exact (gripClosed_weighSound (h.congr hsame) (by rwa [hwce])).congr rfl

theorem releaseEvent_weighSound (h : s.WeighSound) : (releaseEvent s).WeighSound := by
  unfold releaseEvent
  split
  case h_1 => exact h
  case h_5 e | h_6 e =>
    have hc : s.wce.capturing := by simp [Wce.capturing, e]
    exact closeGrip_weighSound (endCapture_weighSound _ _ h hc) (endCapture_not_capturing _ _ _)
  all_goals
    rename_i e
    exact closeGrip_weighSound h (by simp [Wce.capturing, e])

theorem releaseTest_weighSound (h : s.WeighSound) : (releaseTest s).WeighSound := by
  have hedge (edge : Bool) : (s.setWce { s.wce with openEdge := edge }).WeighSound := by
    obtain ⟨hheld, horigin, hsuspend, hle, hnil, hgrip⟩ := h.2.wce
    exact ⟨h.1, h.2.setWce ⟨hheld, horigin, hsuspend, hle, hnil, hgrip⟩ id id⟩
  unfold releaseTest
  dsimp only
  split
  · exact releaseEvent_weighSound (hedge _)
  · exact hedge _

theorem demandEvent_weighSound (h : s.WeighSound) : (demandEvent s).WeighSound :=
  liftConditions_weighSound (releaseTest_weighSound (closureTest_weighSound h))

theorem demandExpired_weighSound (v : ValveSection) (h : s.WeighSound) : (demandExpired v s).WeighSound := by
  unfold demandExpired
  dsimp only
  split
  · exact demandEvent_weighSound (h.congr rfl)
  · exact h

theorem suspendExpired_weighSound (h : s.WeighSound) : (suspendExpired s).WeighSound := by
  unfold suspendExpired
  split
  · rename_i hdue
    exact endCapture_weighSound _ _ h (by simp_all [Wce.capturing])
  · exact h

end Sys2Proof.Machine
end

section
/-! ### The weigh link stays sound under its own events -/

namespace Sys2Proof.Machine

open Sys2Proof

variable {s : State}

/-! #### Leaving the exchange -/

section Departures

variable {w : Wlc} (hb : w.Bounded)

include hb

theorem Wlc.Bounded.failed_sound {cause : LinkCause} (hc : cause ≠ .none) (hd : w.detect = true) :
    Wlc.Sound { w.abandon with state := .failed, cause := cause, supply := false, identity := none } := by
  obtain ⟨hhistory, hfailures, hpoll⟩ := hb
  simp [Wlc.Sound, Wlc.abandon, linkFits, sentFits, hhistory, hfailures, hpoll, hc, hd]

theorem Wlc.Bounded.absent_sound :
    Wlc.Sound { w.abandon with
      state := .absent, cause := .none, supply := false, identity := none, failures := 0, history := [] } := by
  obtain ⟨hhistory, hfailures, hpoll⟩ := hb
  simp [Wlc.Sound, Wlc.abandon, linkFits, sentFits, hpoll]

theorem Wlc.Bounded.recovering_sound (now due : Nat) (hd : w.detect = true) (hi : w.identity.isSome)
    (hs : w.supply = true) (hc : w.cause = .none) :
    Wlc.Sound { w.abandon with
      state := .recovering, history := ringPush 2 w.history now, activity := .lineRelease due } := by
  obtain ⟨hhistory, hfailures, hpoll⟩ := hb
  simp [Wlc.Sound, Wlc.abandon, linkFits, sentFits, hfailures, hpoll, hd, hi, hs, hc, ringPush_length]

theorem Wlc.Bounded.repowered_sound (ends : Nat) (hd : w.detect = true) :
    Wlc.Sound { w.abandon with
      state := .powering, cause := .none, supply := false, identity := none, history := []
      activity := .offTime ends } := by
  obtain ⟨hhistory, hfailures, hpoll⟩ := hb
  simp [Wlc.Sound, Wlc.abandon, linkFits, sentFits, hfailures, hpoll, hd]

end Departures

theorem enterFailed_weighSound {cause : LinkCause} (hc : cause ≠ .none) (hb : s.wlc.Bounded)
    (hd : s.wlc.detect = true) (he : s.wce.Sound) : (enterFailed cause s).WeighSound := by
  refine linkLeft_weighSound ?_ ?_
  · rw [latch_wlc]
    exact hb.failed_sound hc hd
  · simpa using he

theorem resetLink_weighSound (h : s.WeighSound) (hd : s.wlc.detect = true) : (resetLink s).WeighSound :=
  linkLeft_weighSound (h.1.bounded.repowered_sound _ hd) h.2.wce

/-! #### Detect line and switch -/

/-- The debounce of the detect line looks at the pin and its timer, of which soundness says nothing (R20). -/
theorem setDetectLine_weighSound (h : s.WeighSound) (level : Bool) (due : Option Nat) :
    (s.setWlc { s.wlc with detectLine := level, debounceDue := due }).WeighSound :=
  ⟨h.1, h.2.setWlc rfl fun hr => ⟨hr, rfl⟩⟩

theorem lineChanged_weighSound (level : Bool) (h : s.WeighSound) : (lineChanged level s).WeighSound := by
  unfold lineChanged
  split
  · exact h
  · exact setDetectLine_weighSound h _ _

theorem powerOn_weighSound (h : s.WeighSound) (hd : s.wlc.detect = true) (ha : s.wlc.state = .absent) :
    (powerOn s).WeighSound := by
  have hcleared := h.1.cleared (by simp [ha])
  obtain ⟨hfits, hsent, hid, -, -, -, hcause, hhistory, hfailures, -, -, hpoll, -⟩ := h.1
  have hquiet : s.wlc.activity = .none := by
    rw [ha] at hfits
    revert hfits
    cases s.wlc.supply <;> cases s.wlc.activity <;> simp [linkFits]
  refine ⟨?_, h.2.setWlc rfl (by simp [ha])⟩
  simp_all [powerOn, Wlc.Sound, linkFits, sentFits]

theorem becamePresent_weighSound (h : s.WeighSound) (hd : s.wlc.detect = false) : (becamePresent s).WeighSound := by
  have hmarked : (s.setWlc { s.wlc with detect := true, debounceDue := none }).WeighSound := by
    obtain ⟨hfits, hsent, hid, hlatest, hring, hlen, hcause, hhistory, hfailures, hrun, hreads, hpoll, -⟩ := h.1
    exact ⟨⟨hfits, hsent, hid, hlatest, hring, hlen, hcause, hhistory, hfailures, hrun, hreads, hpoll, nofun⟩,
      h.2.setWlc rfl fun hr => ⟨hr, rfl⟩⟩
  have hlatched := hmarked.congr (latch_weigh _ .linkAttached)
  unfold becamePresent
  dsimp only
  split
  · exact powerOn_weighSound hlatched (by simp) (by simp_all)
  · exact hlatched

theorem becameAbsent_weighSound (h : s.WeighSound) : (becameAbsent s).WeighSound := by
  obtain ⟨hhistory, hfailures, hpoll⟩ := h.1.bounded
  refine linkLeft_weighSound (Wlc.Bounded.absent_sound ⟨?_, ?_, ?_⟩) ?_
  · simpa using hhistory
  · simpa using hfailures
  · simpa using hpoll
  · simpa using h.2.wce

theorem debounceExpired_weighSound (h : s.WeighSound) : (debounceExpired s).WeighSound := by
  unfold debounceExpired
  split
  · split
    · exact becameAbsent_weighSound h
    · rename_i hd
      exact becamePresent_weighSound h (by simpa using hd)
  · exact h

theorem powerOffTimeExpired_weighSound (h : s.WeighSound) : (powerOffTimeExpired s).WeighSound := by
  unfold powerOffTimeExpired
  split
  · rename_i ends ha
    split
    · have hfits := linkFits_offTime.1 (ha ▸ h.1.1)
      refine ⟨?_, h.2.setWlc rfl (by simp [hfits])⟩
      have hw := h.1
      simp_all [Wlc.Sound, linkFits, sentFits]
    · exact h
  · exact h

/-! #### Identity -/

/-- A link that is on the lines with its head powered goes to IDENTIFYING with a fresh read (R23, R33). -/
theorem enterIdentifying_weighSound (before : List LinkSignal) (h : s.WeighSound) (hr : s.wlc.state ≠ .running)
    (hf : s.wlc.state ≠ .failed) (hd : s.wlc.detect = true) (hs : s.wlc.supply = true) :
    (enterIdentifying before s).WeighSound := by
  have hcleared := h.1.cleared hr
  have hcause := h.1.uncaused hf
  obtain ⟨hhistory, hfailures, hpoll⟩ := h.1.bounded
  refine ⟨?_, h.2.setWlc rfl (absurd · hr)⟩
  simp_all [enterIdentifying, Wlc.Sound, linkFits, sentFits]

theorem linkSettleExpired_weighSound (h : s.WeighSound) : (linkSettleExpired s).WeighSound := by
  unfold linkSettleExpired
  split
  · rename_i ends ha
    split
    · obtain ⟨hstate, hsupply⟩ := linkFits_settling.1 (ha ▸ h.1.1)
      have hd := h.1.detected (by simp [hstate])
      exact enterIdentifying_weighSound _ h (by simp [hstate]) (by simp [hstate]) hd hsupply
    · exact h
  · exact h

theorem compareSerial_wlc (serial : Nat) (s : State) : (compareSerial serial s).wlc = s.wlc := by
  unfold compareSerial
  split <;> simp

theorem compareSerial_wce (serial : Nat) (s : State) : (compareSerial serial s).wce = s.wce := by
  unfold compareSerial
  split <;> simp

/-- A valid read makes the link RUNNING with its head and its first poll; only then can a capture start (R26, R53). -/
theorem identityValid_weighSound (head : HeadIdentity) {began : Nat} (h : s.WeighSound)
    (ha : s.wlc.activity = .reading began) : (identityValid head s).WeighSound := by
  obtain ⟨hstate, hsupply⟩ := linkFits_reading.1 (ha ▸ h.1.1)
  obtain ⟨hc, ht⟩ := h.2.quiet (by simp [hstate])
  have hd := h.1.detected (by simp [hstate])
  obtain ⟨-, -, -, hlatest, -, -, hcause, hhistory, -, -, -, -, -⟩ := h.1
  refine triggerArmed_weighSound ⟨?_, Wce.Sound.engineSound ?_ ?_ ?_⟩
  · simp_all [makePoll, compareSerial_wlc, Wlc.Sound, linkFits, sentFits]
    omega
  · simpa [makePoll, compareSerial_wce] using h.2.wce
  · simpa [makePoll, compareSerial_wce] using hc
  · simpa [makePoll, compareSerial_wlc] using ht

theorem identityFailed_weighSound {began : Nat} (h : s.WeighSound) (ha : s.wlc.activity = .reading began) :
    (identityFailed began s).WeighSound := by
  obtain ⟨hstate, hsupply⟩ := linkFits_reading.1 (ha ▸ h.1.1)
  have hd := h.1.detected (by simp [hstate])
  have hb := h.1.bounded
  unfold identityFailed
  dsimp only
  split
  · exact enterFailed_weighSound (by simp) ⟨hb.history, hb.failures, hb.nextPoll⟩ hd h.2.wce
  · rename_i hreads
    refine ⟨?_, h.2.setWlc rfl (by simp [hstate])⟩
    have hw := h.1
    have hreads : s.wlc.failedReads + 1 < 3 := not_le.1 hreads
    simp_all [Wlc.Sound, linkFits, sentFits]

theorem identityReadEnded_weighSound (answer : Option IdentityAnswer) (h : s.WeighSound) :
    (identityReadEnded answer s).WeighSound := by
  unfold identityReadEnded
  split
  · rename_i began ha
    split
    · split
      · exact identityValid_weighSound _ h ha
      · exact identityFailed_weighSound h ha
    · split
      · exact identityFailed_weighSound h ha
      · exact h
  · exact h

theorem identityRetried_weighSound (h : s.WeighSound) : (identityRetried s).WeighSound := by
  unfold identityRetried
  split
  · rename_i due ha
    split
    · obtain ⟨hstate, hsupply⟩ := linkFits_retryWait.1 (ha ▸ h.1.1)
      refine ⟨?_, h.2.setWlc rfl (by simp [hstate])⟩
      have hw := h.1
      simp_all [Wlc.Sound, linkFits, sentFits]
    · exact h
  · exact h

/-! #### Poll and sample -/

theorem pollMade_weighSound (h : s.WeighSound) : (pollMade s).WeighSound := by
  unfold pollMade
  split
  · rename_i due ha
    split
    · obtain ⟨hstate, hsupply⟩ := linkFits_pollWait.1 (ha ▸ h.1.1)
      refine ⟨?_, h.2.setWlc rfl fun hr => ⟨hr, rfl⟩⟩
      have hw := h.1
      simp_all [makePoll, Wlc.Sound, linkFits, sentFits]
      omega
    · exact h
  · exact h

/-- The end of a tare that is done writes the record only while no capture can run (R41). -/
theorem finishTare_engineSound (head : HeadIdentity) (h : s.EngineSound) (ht : s.wlc.tare.state = .running) :
    (finishTare head s).EngineSound := by
  unfold finishTare
  dsimp only
  split
  · exact failTare_engineSound _ h
  · obtain ⟨hrun, hidle⟩ := h.tare ht
    refine Wce.Sound.engineSound ?_ ?_ ?_
    · simpa using h.wce
    · simp [Wce.capturing, hidle]
    · simp

theorem tareSample_engineSound (head : HeadIdentity) (o : PollOutcome) (h : s.EngineSound) :
    (tareSample head o s).EngineSound := by
  unfold tareSample
  split
  · rename_i ht
    have hcounted (t : Tare) : (s.setWlc { s.wlc with tare := t }).EngineSound :=
      (State.engineSound_iff _).2 ⟨h.wce, h.capture, fun _ => h.tare ht⟩
    dsimp only
    split
    · split
      · exact finishTare_engineSound _ (hcounted _) ht
      · exact hcounted _
    · split
      · exact failTare_engineSound _ (hcounted _)
      · exact hcounted _
  · exact h

/-! #### What the engine and the tare leave when they take a sample -/

section SampleFrames

variable (s : State) (x : Sample) (head : HeadIdentity) (o : PollOutcome)

theorem evaluateWindow_frame :
    evaluateWindow s = (s.setWce (evaluateWindow s).wce).setClp (evaluateWindow s).clp := by
  unfold evaluateWindow
  split
  · rfl
  · split <;> rfl

/-- A sample changes the engine and the port alone, when the engine takes it. -/
theorem engineSample_frame : engineSample x s = (s.setWce (engineSample x s).wce).setClp (engineSample x s).clp := by
  unfold engineSample
  split
  · split
    · unfold acceptSample
      dsimp only
      split
      · rw [evaluateWindow_frame]
        rfl
      · rfl
    · unfold rejectSample
      dsimp only
      split <;> rfl
  · rfl

@[simp] theorem engineSample_wlc : (engineSample x s).wlc = s.wlc := by rw [engineSample_frame]; rfl
@[simp] theorem engineSample_now : (engineSample x s).now = s.now := by rw [engineSample_frame]; rfl

@[simp] theorem failTare_now (reason : TareReason) : (failTare reason s).now = s.now := by
  unfold failTare
  split <;> simp

@[simp] theorem tareSample_now : (tareSample head o s).now = s.now := by
  unfold tareSample finishTare
  dsimp only
  split
  · split
    · split
      · split <;> simp
      · simp
    · split <;> simp
  · rfl

/-- The tare changes nothing of the link but itself, when it takes a sample. -/
theorem tareSample_wlc : (tareSample head o s).wlc = { s.wlc with tare := (tareSample head o s).wlc.tare } := by
  unfold tareSample finishTare
  dsimp only
  split
  · split
    · split
      · split
        · rw [failTare_wlc]
          rfl
        · simp
      · simp
    · split
      · rw [failTare_wlc]
        rfl
      · simp
  · rfl

end SampleFrames

/-! #### A poll's completion -/

section Completion

variable (head : HeadIdentity) (number began : Nat) (o : PollOutcome) (s : State)

/-- The sample record that `publishSample` publishes (R31). -/
def publishedSample : Sample :=
  let ring := (publishSample number began o s).wlc.ring
  { poll := number
    outcome := o
    forceUsable := o.usableForce.isSome
    linkForce := s.wlc.state = .running && !ring.isEmpty && o.usableForce.isSome }

theorem publishSample_latest :
    (publishSample number began o s).wlc.latest = some (publishedSample number began o s) := rfl

/-- The state once the engine and the tare have taken the published sample, before the third failure is judged. -/
def sampleTaken : State :=
  tareSample head o (engineSample (publishedSample number began o s) (publishSample number began o s))

@[simp] theorem sampleTaken_now : (sampleTaken head number began o s).now = s.now := by
  simp [sampleTaken, publishSample]

theorem sampleTaken_wlc : (sampleTaken head number began o s).wlc =
    { (publishSample number began o s).wlc with tare := (sampleTaken head number began o s).wlc.tare } := by
  unfold sampleTaken
  rw [tareSample_wlc, engineSample_wlc]

/-- The engine and the tare take the sample; then the third failure leaves RUNNING (R28). -/
theorem pollCompleted_eq : pollCompleted head number began o s =
    if 3 ≤ (publishSample number began o s).wlc.failures then recoveryDecision (sampleTaken head number began o s)
    else sampleTaken head number began o s := by
  have hfailures :
      (sampleTaken head number began o s).wlc.failures = (publishSample number began o s).wlc.failures := by
    rw [sampleTaken_wlc]
  rw [← hfailures]
  rfl

end Completion

/-- A published sample leaves the link sound but for a third failure, which leaves RUNNING in the same event (R28). -/
theorem publishSample_wlcSound {number began : Nat} {o : PollOutcome} (h : s.wlc.Sound)
    (ha : s.wlc.activity = .polling number began) (hf : (publishSample number began o s).wlc.failures < 3) :
    (publishSample number began o s).wlc.Sound := by
  obtain ⟨hstate, hsupply⟩ := linkFits_polling.1 (ha ▸ h.1)
  obtain ⟨-, hsent, hid, hlatest, hring, hlen, hcause, hhistory, hfailures, -, hreads, hpoll, hdetect⟩ := h
  rw [ha] at hsent
  refine ⟨?_, hsent, hid, fun _ => hstate, fun _ => hstate, ?_, hcause, hhistory, hf.le, fun _ => hf, hreads, hpoll,
    hdetect⟩
  · exact linkFits_pollWait.2 ⟨hstate, hsupply⟩
  · unfold publishSample
    dsimp only [State.setWlc_wlc]
    split
    · exact ringPush_length _ _ _
    · exact hlen

theorem publishSample_bounded {number began : Nat} {o : PollOutcome} (hb : s.wlc.Bounded) (hf : s.wlc.failures < 3) :
    (publishSample number began o s).wlc.Bounded := by
  refine ⟨hb.history, ?_, hb.nextPoll⟩
  simp only [publishSample, State.setWlc_wlc]
  split <;> omega

theorem recoveryDecision_weighSound (hb : s.wlc.Bounded) (hd : s.wlc.detect = true) (hi : s.wlc.identity.isSome)
    (hs : s.wlc.supply = true) (hc : s.wlc.cause = .none) (he : s.wce.Sound) : (recoveryDecision s).WeighSound := by
  unfold recoveryDecision
  split
  · exact linkLeft_weighSound (hb.recovering_sound _ _ hd hi hs hc) he
  · exact enterFailed_weighSound (by simp) hb hd he

theorem pollCompleted_weighSound {head : HeadIdentity} {number began : Nat} (o : PollOutcome) (h : s.WeighSound)
    (ha : s.wlc.activity = .polling number began) (hi : s.wlc.identity = some head) :
    (pollCompleted head number began o s).WeighSound := by
  obtain ⟨hstate, hsupply⟩ := linkFits_polling.1 (ha ▸ h.1.1)
  have hd := h.1.detected (by simp [hstate])
  have hc := h.1.uncaused (by simp [hstate])
  have hpublished : (publishSample number began o s).EngineSound := h.2.setWlc rfl fun hr => ⟨hr, rfl⟩
  have htaken : (sampleTaken head number began o s).EngineSound :=
    tareSample_engineSound _ _ (engineSample_engineSound _ hpublished)
  have hwlc := sampleTaken_wlc head number began o s
  rw [pollCompleted_eq]
  split
  · obtain ⟨-, -, -, -, -, -, -, -, -, hrun, -⟩ := h.1
    obtain ⟨hhistory, hfailures, hpoll⟩ := publishSample_bounded (number := number) (began := began) (o := o)
      h.1.bounded (hrun hstate)
    refine recoveryDecision_weighSound ⟨?_, ?_, ?_⟩ ?_ ?_ ?_ ?_ htaken.wce <;> rw [hwlc]
    · exact hhistory
    · exact hfailures
    · exact hpoll
    · exact hd
    · exact hi ▸ rfl
    · exact hsupply
    · exact hc
  · rename_i hf
    refine ⟨?_, htaken⟩
    rw [hwlc]
    exact (publishSample_wlcSound h.1 ha (not_le.1 hf)).setTare _

theorem pollEnded_weighSound (answer : Option SampleAnswer) (h : s.WeighSound) : (pollEnded answer s).WeighSound := by
  unfold pollEnded
  split
  · rename_i number began head ha hi
    have hcompleted (o : PollOutcome) := pollCompleted_weighSound o h ha hi
    split
    · split <;> exact hcompleted _
    · split
      · exact hcompleted _
      · exact h
  · exact h

/-! #### Recovery -/

theorem sendPulse_weighSound {k : Nat} (h : s.WeighSound) (hr : s.wlc.state = .recovering) (hs : s.wlc.supply = true)
    (h1 : 1 ≤ k) (h9 : k ≤ 9) : (sendPulse k s).WeighSound := by
  refine ⟨?_, h.2.setWlc rfl (by simp [hr])⟩
  have hw := h.1
  simp_all [sendPulse, Wlc.Sound, linkFits, sentFits]

theorem linesRead_weighSound (clock data : Bool) (h : s.WeighSound) : (linesRead clock data s).WeighSound := by
  unfold linesRead
  split
  · rename_i due ha
    obtain ⟨hstate, hsupply⟩ := linkFits_lineRelease.1 (ha ▸ h.1.1)
    have hd := h.1.detected (by simp [hstate])
    split
    · split
      · exact enterFailed_weighSound (by simp) h.1.bounded hd h.2.wce
      · split
        · exact enterIdentifying_weighSound _ h (by simp [hstate]) (by simp [hstate]) hd hsupply
        · exact sendPulse_weighSound h hstate hsupply (by omega) (by omega)
    · exact h
  · exact h

theorem pulseEnded_weighSound (data : Bool) (h : s.WeighSound) : (pulseEnded data s).WeighSound := by
  unfold pulseEnded
  split
  · rename_i pulse due ha
    obtain ⟨hstate, hsupply, h1, h9⟩ := linkFits_pulsing.1 (ha ▸ h.1.1)
    have hd := h.1.detected (by simp [hstate])
    split
    · split
      · exact enterIdentifying_weighSound _ h (by simp [hstate]) (by simp [hstate]) hd hsupply
      · split
        · exact enterFailed_weighSound (by simp) h.1.bounded hd h.2.wce
        · exact sendPulse_weighSound h hstate hsupply (by omega) (by omega)
    · exact h
  · exact h

end Sys2Proof.Machine
end

section
/-! ### The weigh link and the engine, kept sound by every step -/

namespace Sys2Proof.Machine

open Sys2Proof

/-! #### The requests of the engine and of the link, and the restart -/

section Requests

variable {s : State}

theorem driveOwner_weighSound (s : State) (r : DriveRequest) (h : s.WeighSound) :
    (driveOwner r s).state.WeighSound := by
  unfold driveOwner
  split
  · exact h
  · exact (demandEvent_weighSound (s := driveHeld r s) (h.congr rfl)).congr (driveSupply_weigh _ _)

theorem armOwner_weighSound (s : State) (u : Unit) (h : s.WeighSound) : (armOwner u s).state.WeighSound := by
  obtain ⟨hheld, horigin, hsuspend, hle, hnil, hgrip⟩ := h.2.wce
  unfold armOwner
  split
  case h_1 => exact ⟨h.1, h.2.setWce ⟨hheld, horigin, hsuspend, hle, hnil, hgrip⟩ id id⟩
  case h_2 hstate =>
    unfold armGripped
    dsimp only
    split
    · refine triggerArmed_weighSound ⟨h.1, h.2.setWce ⟨?_, ?_, ?_, hle, ?_, hgrip⟩ ?_ ?_⟩ <;> simp_all [Wce.capturing]
    · exact ⟨h.1, h.2.setWce ⟨hheld, horigin, hsuspend, hle, hnil, hgrip⟩ id id⟩
  all_goals exact h

theorem disarmOwner_weighSound (s : State) (u : Unit) (h : s.WeighSound) : (disarmOwner u s).state.WeighSound := by
  obtain ⟨hheld, horigin, hsuspend, hle, hnil, hgrip⟩ := h.2.wce
  unfold disarmOwner
  split
  case h_1 => exact ⟨h.1, h.2.setWce ⟨hheld, horigin, hsuspend, hle, hnil, hgrip⟩ id id⟩
  case h_2 hstate =>
    refine ⟨h.1, h.2.setWce ⟨?_, ?_, ?_, hle, ?_, hgrip⟩ ?_ ?_⟩ <;> simp_all [Wce.capturing]
  case h_3 hstate | h_4 hstate =>
    exact endCapture_weighSound _ _ h (by simp [Wce.capturing, hstate])
  all_goals exact h

theorem linkResetOwner_weighSound (s : State) (u : Unit) (h : s.WeighSound) :
    (linkResetOwner u s).state.WeighSound := by
  unfold linkResetOwner
  split
  · exact h
  · rename_i hhead
    refine resetLink_weighSound h ?_
    by_cases ha : s.wlc.state = .absent
    · simpa [ha] using hhead
    · exact h.1.detected ha

/-- A Calibrate writes the trim, of which the record's validity does not depend (R36, R38). -/
theorem calibrateOwner_weighSound (s : State) (r : CalibrateRequest) (h : s.WeighSound) :
    (calibrateOwner r s).state.WeighSound := by
  unfold calibrateOwner
  split
  · exact h
  · split
    · exact h
    · exact h

/-- A tare starts only on a RUNNING link with the engine IDLE (R39). -/
theorem tareOwner_weighSound (s : State) (u : Unit) (h : s.WeighSound) : (tareOwner u s).state.WeighSound := by
  unfold tareOwner
  split_ifs with htare hlink hengine
  · exact h
  · exact h
  · exact h
  · exact ⟨h.1.setTare _, (State.engineSound_iff _).2
      ⟨h.2.wce, h.2.capture, fun _ => ⟨not_not.1 hlink, not_not.1 hengine⟩⟩⟩

theorem restartTaken_weighSound (h : s.WeighSound) : (restartTaken s).WeighSound := by
  have hset (asked : Option RestartKind) (s : State) : (restarted asked s).WeighSound := by
    unfold restarted
    exact State.WeighSound.congr (s := restartBlocks _ _ s)
      ⟨restartWlc_sound _ _, restartBlocks_engineSound _ _ s⟩ (latchIf_weigh _ _ _)
  unfold restartTaken
  split
  · split
    · split
      · exact hset _ _
      · exact h
    · exact h
  · exact hset _ _

end Requests

/-! #### Every command -/

section Commands

variable {dt : Nat} {s t : State}

/-- An event of the supplied part keeps the soundness when its action does. -/
theorem onSupply_weighSound {act : State → State} (hact : ∀ s, s.WeighSound → (act s).WeighSound) (h : s.WeighSound)
    (e : onSupply dt s act = .next t) : t.WeighSound := by
  have htick : (s.tick dt).WeighSound := h.congr rfl
  rw [← Host.Outcome.next.inj e]
  split
  · exact hact _ htick
  · exact htick

/-- A request event keeps the soundness when its owner does. -/
theorem execRequest_weighSound {α : Type} {kind : Byte} {reader : Reader α} {owner : α → State → Answer}
    (howner : ∀ s x, s.WeighSound → (owner x s).state.WeighSound) (h : s.WeighSound)
    (e : execRequest dt kind reader owner s = .next t) : t.WeighSound := by
  refine onSupply_weighSound (fun s h => ?_) h e
  unfold takeRequest
  split
  · rename_i f rest _
    split
    · have htaken : (takeFrame f rest s).WeighSound := h.congr rfl
      refine State.WeighSound.congr (s := Answer.state _) ?_ (putReply_weigh _ _ _)
      unfold answerFrame
      split
      · exact howner _ _ htaken
      · exact htaken
    · exact h
  · exact h

/-- An event that leaves link, engine and record alone keeps the soundness. -/
theorem onSupply_weighSound_of_frame {act : State → State} (hact : ∀ s, (act s).weigh = s.weigh) (h : s.WeighSound)
    (e : onSupply dt s act = .next t) : t.WeighSound :=
  onSupply_weighSound (fun s hs => hs.congr (hact s)) h e

/-- A request whose owner leaves link, engine and record alone keeps the soundness. -/
theorem execRequest_weighSound_of_frame {α : Type} {kind : Byte} {reader : Reader α} {owner : α → State → Answer}
    (howner : ∀ s x, (owner x s).state.weigh = s.weigh) (h : s.WeighSound)
    (e : execRequest dt kind reader owner s = .next t) : t.WeighSound :=
  execRequest_weighSound (fun s x hs => hs.congr (howner s x)) h e

theorem exec_weighSound {c : Instr} (h : s.WeighSound) (e : exec c s = .next t) : t.WeighSound := by
  cases c with
  | detectLineChange dt level =>
    rw [← Host.Outcome.next.inj e]
    have htick : (s.tick dt).WeighSound := h.congr rfl
    split
    · exact lineChanged_weighSound level htick
    · exact setDetectLine_weighSound htick level _
  | debounceExpiry => exact onSupply_weighSound (fun _ => debounceExpired_weighSound) h e
  | powerOffTimeExpiry => exact onSupply_weighSound (fun _ => powerOffTimeExpired_weighSound) h e
  | linkSettleExpiry => exact onSupply_weighSound (fun _ => linkSettleExpired_weighSound) h e
  | identityReadEnd => exact onSupply_weighSound (fun _ => identityReadEnded_weighSound _) h e
  | identityRetry => exact onSupply_weighSound (fun _ => identityRetried_weighSound) h e
  | poll => exact onSupply_weighSound (fun _ => pollMade_weighSound) h e
  | pollCompletion => exact onSupply_weighSound (fun _ => pollEnded_weighSound _) h e
  | recoveryLineRead => exact onSupply_weighSound (fun _ => linesRead_weighSound _ _) h e
  | clockPulseEnd => exact onSupply_weighSound (fun _ => pulseEnded_weighSound _) h e
  | demandExpiry => exact onSupply_weighSound (fun _ => demandExpired_weighSound _) h e
  | suspendTimerExpiry => exact onSupply_weighSound (fun _ => suspendExpired_weighSound) h e
  | restart dt => exact Host.Outcome.next.inj e ▸ restartTaken_weighSound (h.congr rfl)
  | drive => exact execRequest_weighSound driveOwner_weighSound h e
  | arm => exact execRequest_weighSound armOwner_weighSound h e
  | disarm => exact execRequest_weighSound disarmOwner_weighSound h e
  | linkReset => exact execRequest_weighSound linkResetOwner_weighSound h e
  | calibrate => exact execRequest_weighSound calibrateOwner_weighSound h e
  | tare => exact execRequest_weighSound tareOwner_weighSound h e
  | scan => exact onSupply_weighSound_of_frame (scanned_weigh · _) h e
  | drivePeriod => exact onSupply_weighSound_of_frame (drivePeriodTaken_weigh · _) h e
  | driverTrip => exact onSupply_weighSound_of_frame (driverTripped_weigh · _) h e
  | supplySettleExpiry => exact onSupply_weighSound_of_frame supplySettleExpired_weigh h e
  | idleTimerExpiry => exact onSupply_weighSound_of_frame idleTimerExpired_weigh h e
  | byteReceived => exact onSupply_weighSound_of_frame (act := byteTaken _ _) (fun _ => rfl) h e
  | gapExpiry => exact onSupply_weighSound_of_frame gapExpired_weigh h e
  | frameSent => exact onSupply_weighSound_of_frame frameSent_weigh h e
  | unknownKind => exact onSupply_weighSound_of_frame unknownTaken_weigh h e
  | storeWriteCompletion => exact onSupply_weighSound_of_frame (storeCompleted_weigh · _) h e
  | mainSupplyLoss => exact Host.Outcome.next.inj e ▸ h.congr rfl
  | standbySupplyLoss => exact Host.Outcome.next.inj e ▸ h.congr rfl
  | standbySupplyReturn => exact Host.Outcome.next.inj e ▸ h.congr rfl
  | status => exact execRequest_weighSound_of_frame statusOwner_weigh h e
  | readChanges => exact execRequest_weighSound_of_frame readChangesOwner_weigh h e
  | clearChanges => exact execRequest_weighSound_of_frame (owner := clearChangesOwner) (fun _ _ => rfl) h e
  | changeConfig => exact execRequest_weighSound_of_frame (owner := changeConfigOwner) (fun _ _ => rfl) h e
  | sectionConfig => exact execRequest_weighSound_of_frame sectionConfigOwner_weigh h e
  | profileWrite => exact execRequest_weighSound_of_frame profileOwner_weigh h e
  | release => exact execRequest_weighSound_of_frame releaseOwner_weigh h e
  | faultClear => exact execRequest_weighSound_of_frame faultClearOwner_weigh h e
  | captureConfig => exact execRequest_weighSound_of_frame captureOwner_weigh h e
  | assortment => exact execRequest_weighSound_of_frame assortmentOwner_weigh h e
  | readLifts => exact execRequest_weighSound_of_frame readLiftsOwner_weigh h e
  | readTotals => exact execRequest_weighSound_of_frame readTotalsOwner_weigh h e
  | undoLast => exact execRequest_weighSound_of_frame undoLastOwner_weigh h e
  | correct => exact execRequest_weighSound_of_frame correctOwner_weigh h e
  | reassign => exact execRequest_weighSound_of_frame reassignOwner_weigh h e
  | manualLift => exact execRequest_weighSound_of_frame manualLiftOwner_weigh h e
  | tripClose => exact execRequest_weighSound_of_frame (owner := tripCloseOwner) (fun _ _ => rfl) h e
  | payloadLimit => exact execRequest_weighSound_of_frame payloadLimitOwner_weigh h e
  | zoneWrite => exact execRequest_weighSound_of_frame zoneWriteOwner_weigh h e
  | zoneEnable => exact execRequest_weighSound_of_frame zoneEnableOwner_weigh h e
  | zoneRead => exact execRequest_weighSound_of_frame zoneReadOwner_weigh h e
  | limiterConfig => exact execRequest_weighSound_of_frame limiterOwner_weigh h e
  | ratedWrite => exact execRequest_weighSound_of_frame ratedOwner_weigh h e
  | linkStatus => exact execRequest_weighSound_of_frame (owner := linkStatusOwner) (fun _ _ => rfl) h e
  | channelCalibration => exact execRequest_weighSound_of_frame channelOwner_weigh h e
  | geometryConfig => exact execRequest_weighSound_of_frame geometryOwner_weigh h e
  | storeSettings => exact execRequest_weighSound_of_frame storeOwner_weigh h e
  | restartRequest => exact execRequest_weighSound_of_frame (owner := restartOwner) (fun _ _ => rfl) h e

end Commands

/-- Settles O9: each event of the link, the engine and the tare keeps both sound, a restart sets both to their sound
restart values, and every other command leaves them and the calibration record alone. -/
theorem stepKeepsLinkAndEngine : Obligations.StepKeepsLinkAndEngine := by
  intro s t hwlc hengine hstep
  cases hp : s.pending with
  | nil =>
    simp only [step, hp, Host.Outcome.next.injEq] at hstep
    exact hstep ▸ ⟨hwlc, hengine⟩
  | cons c rest =>
    simp only [step, hp] at hstep
    exact exec_weighSound (s := s.setPending rest) ⟨hwlc, hengine⟩ hstep

end Sys2Proof.Machine
end

section
/-! ### A running tare and its samples -/

namespace Sys2Proof.Machine

open Sys2Proof

/-- A tare accepts a sample with the OK status, the swing and a force at the stored trim within 0..40 000 N (R40). -/
theorem acceptedTareForce_eq_some_iff {h : HeadIdentity} {trim swingLimit n : Nat} {o : PollOutcome} :
    acceptedTareForce h trim swingLimit o = some n ↔
      ∃ d, o = .good d ∧ d.status = .ok ∧ d.swing ≤ swingLimit ∧ n ≤ 40000 ∧ (n : Int) = rawForce h trim d.count := by
  cases o with
  | good d =>
    simp only [acceptedTareForce, Bool.and_eq_true, decide_eq_true_eq, inRangeInt_iff, Option.ite_none_right_eq_some,
      Option.some.injEq, PollOutcome.good.injEq, exists_eq_left']
    constructor
    · rintro ⟨⟨⟨hstatus, hswing⟩, hlo, hhi⟩, rfl⟩
      exact ⟨hstatus, hswing, by omega, by omega⟩
    · rintro ⟨hstatus, hswing, hle, hforce⟩
      exact ⟨⟨⟨hstatus, hswing⟩, by omega, by omega⟩, by omega⟩
  | corrupt => simp [acceptedTareForce]
  | missing => simp [acceptedTareForce]

/-- The counts of a tare after an accepted sample of this force (R41). -/
def Tare.took (t : Tare) (force : Nat) : Tare := { t with accepted := t.accepted + 1, sum := t.sum + force }

/-- Replace the tare operation. -/
def State.putTare (s : State) (t : Tare) : State := s.setWlc { s.wlc with tare := t }

/-- The gross mass of 32 forces, as R41 writes it. -/
theorem grossMass_meanForce_eq (sum : Nat) :
    grossMass (meanForce sum 32) = ((2 * sum + 32) / 64 * 1000 + 4903) / 9807 := rfl

section Samples

variable {s : State} {h : HeadIdentity} {o : PollOutcome}

theorem failTare_putTare (reason : TareReason) {t : Tare} (ht : t.state = .running) :
    failTare reason (s.putTare t) = latch .tareEnded (s.putTare { t with state := .failed reason }) :=
  failTare_of_running (s.putTare t) reason ht

/-- The tare at its 32nd accepted sample: OverRange above 2 000 kg, else DONE with the record written (R41). -/
theorem finishTare_putTare {t : Tare} {kg : Nat} (ht : t.state = .running) (hkg : grossMass (meanForce t.sum 32) = kg) :
    finishTare h (s.putTare t) =
      if 2000 < kg then latch .tareEnded (s.putTare { t with state := .failed .overRange })
      else
        latch .tareEnded
          ((s.setSettings { s.settings with
            calRecord := { s.settings.calRecord with tare := kg, bound := some h.serial, tareDone := true } }).putTare
              { t with state := .done kg }) := by
  subst hkg
  rw [← failTare_putTare .overRange ht]
  rfl

theorem tareSample_of_accepted {n : Nat} (ht : s.wlc.tare.state = .running)
    (ha : acceptedTareForce h s.settings.calRecord.trim s.settings.capture.swingLimit o = some n) :
    tareSample h o s =
      if 32 ≤ s.wlc.tare.accepted + 1 then
        finishTare h (s.putTare (s.wlc.tare.took n))
      else s.putTare (s.wlc.tare.took n) := by
  unfold tareSample
  rw [if_pos ht, ha]
  rfl

theorem tareSample_of_rejected (ht : s.wlc.tare.state = .running)
    (hr : acceptedTareForce h s.settings.calRecord.trim s.settings.capture.swingLimit o = none) :
    tareSample h o s =
      if 64 ≤ s.wlc.tare.rejected + 1 then
        failTare .unsteady (s.putTare { s.wlc.tare with rejected := s.wlc.tare.rejected + 1 })
      else s.putTare { s.wlc.tare with rejected := s.wlc.tare.rejected + 1 } := by
  unfold tareSample
  rw [if_pos ht, hr]
  rfl

end Samples

/-- Settles O60: a sample the tare accepts adds to the sum, any other counts as rejected, and the 32nd or the 64th ends
it. -/
theorem tareTakesSample : Obligations.TareTakesSample := by
  intro s h o
  refine ⟨fun ht => if_neg ht, fun ht good hgood => ⟨fun hnone => ?_, fun d n hd => ?_⟩⟩
  · have hrejected : acceptedTareForce h s.settings.calRecord.trim s.settings.capture.swingLimit o = none := by
      rw [Option.eq_none_iff_forall_ne_some]
      intro n hn
      obtain ⟨d, hd⟩ := acceptedTareForce_eq_some_iff.1 hn
      exact hnone ⟨d, n, (hgood d n).2 hd⟩
    rw [tareSample_of_rejected ht hrejected]
    by_cases hcount : s.wlc.tare.rejected < 63
    · rw [if_neg (by omega), if_pos hcount]
      rfl
    · rw [if_pos (by omega), if_neg hcount]
      exact failTare_putTare .unsteady ht
  · have haccepted := acceptedTareForce_eq_some_iff.2 ⟨d, (hgood d n).1 hd⟩
    rw [tareSample_of_accepted ht haccepted]
    refine ⟨s.wlc.tare.took n, _, rfl, rfl, fun hcount => ?_, fun hcount hkg => ?_, fun hcount hkg => ?_⟩
    · rw [if_neg (by omega)]
      rfl
    · rw [if_pos (by omega), finishTare_putTare (t := s.wlc.tare.took n) ht (grossMass_meanForce_eq _), if_pos hkg]
      rfl
    · rw [if_pos (by omega), finishTare_putTare (t := s.wlc.tare.took n) ht (grossMass_meanForce_eq _),
        if_neg (not_lt.2 hkg)]
      rfl

end Sys2Proof.Machine
end

section
/-! ### The closure test of a demand event -/

namespace Sys2Proof.Machine

open Sys2Proof

section Closure

variable {s : State}

/-- At the grip threshold a run begins, or goes on from where it began (R46). -/
theorem closureTest_of_closed (h : (s.settings.capture.gripThreshold : Int) ≤ s.heldOf .grapple) :
    closureTest s = s.setWce { s.wce with closureRun := some (s.wce.closureRun.getD s.now) } := by
  unfold closureTest
  rw [if_pos h]
  split
  · rename_i began hrun
    rw [hrun, Option.getD_some, ← hrun]
    rfl
  · rename_i hrun
    rw [hrun, Option.getD_none]

theorem closureTest_of_no_run (h : ¬(s.settings.capture.gripThreshold : Int) ≤ s.heldOf .grapple)
    (hrun : s.wce.closureRun = none) : closureTest s = s := by
  simp only [closureTest, if_neg h, hrun]

/-- The run of the closure test ended. -/
def State.runEnded (s : State) : State := s.setWce { s.wce with closureRun := none }

/-- Below the threshold a run ends, with a closure event when it has lasted the hold time (R46). -/
theorem closureTest_of_run {began : Nat} (h : ¬(s.settings.capture.gripThreshold : Int) ≤ s.heldOf .grapple)
    (hrun : s.wce.closureRun = some began) :
    closureTest s =
      if s.settings.capture.holdTime ≤ s.now - began then closureEvent s.runEnded else s.runEnded := by
  simp only [closureTest, if_neg h, hrun, State.runEnded]

/-- A latch and a change of the engine do not touch each other. -/
theorem latch_setWce (src : ChangeSource) (s : State) (e : Wce) : latch src (s.setWce e) = (latch src s).setWce e := by
  rw [latch_eq, latch_eq, apply_ite (State.setWce · e)]
  rfl

theorem closureEvent_of_not_idle (h : s.wce.state ≠ .idle) : closureEvent s = s := if_neg h

/-- A tare's end as Disturbed changes nothing that a closure reads (R50). -/
theorem armsAtClosure_failTare (reason : TareReason) : (failTare reason s).armsAtClosure = s.armsAtClosure := by
  simp [State.armsAtClosure, State.calValid]

/-- The engine with a grip opened in IDLE (R47, R49, R50). -/
def State.gripOpened (s : State) : Wce :=
  { s.wce with
    grip := nextGrip s.wce.grip
    origin := some s.evm.bunk
    validityRead := s.calValid
    state := if s.armsAtClosure then .armed else .gripped
    preArm := false }

theorem closureEvent_of_idle (h : s.wce.state = .idle) :
    closureEvent s = (failTare .disturbed s).setWce s.gripOpened := by
  have hevm : (failTare .disturbed s).evm = s.evm := by
    unfold failTare endTare
    split <;> simp
  have hvalid : (failTare .disturbed s).calValid = s.calValid := by simp [State.calValid]
  simp only [closureEvent, if_pos h, armsAtClosure_failTare, failTare_wce, hevm, hvalid, State.gripOpened]

end Closure

/-- Settles O29: the run, then the closure event at the hold time, which opens a grip in IDLE alone. -/
theorem closureTestOpensGrip : Obligations.ClosureTestOpensGrip := by
  intro s
  refine ⟨fun hclosed => closureTest_of_closed hclosed, fun hopen => ?_⟩
  have hopen : ¬(s.settings.capture.gripThreshold : Int) ≤ s.heldOf .grapple := not_le.2 hopen
  refine ⟨closureTest_of_no_run hopen, fun began hrun => ?_⟩
  rw [closureTest_of_run hopen hrun]
  refine ⟨fun hignored => ?_, fun hheld hidle => ?_⟩
  · split
    · rename_i hheld
      have hstate : s.wce.state ≠ .idle := hignored.resolve_left (by omega)
      exact closureEvent_of_not_idle hstate
    · rfl
  · rw [if_pos hheld]
    refine ⟨_, closureEvent_of_idle (s := s.runEnded) hidle, ?_, fun ht => ?_, fun ht => ?_⟩
    · simp only [State.setWce_wce, State.gripOpened, State.armsAtClosure, Bool.and_eq_true, Bool.or_eq_true]
      rfl
    · rw [failTare_of_running s.runEnded .disturbed ht]
      exact (latch_setWce _ _ _).symm
    · rw [failTare_of_not_running s.runEnded .disturbed ht]
      rfl

end Sys2Proof.Machine
end

section
/-! ### The requests of the weigh link -/

namespace Sys2Proof.Machine

open Sys2Proof

/-! #### The departure of the link -/

section Departure

variable {s : State}

theorem linkLeft_of_quiet (ht : s.wlc.tare.state ≠ .running) (hc : ¬s.wce.capturing) : linkLeft s = s := by
  rw [linkLeft, failTare_of_not_running _ _ ht]
  exact if_neg hc

theorem linkLeft_of_tare (ht : s.wlc.tare.state = .running) (hc : ¬s.wce.capturing) :
    linkLeft s = endTare (.failed .link) s := by
  rw [linkLeft, failTare_of_running _ _ ht, engineLinkLeft, endTare_wce]
  exact if_neg hc

theorem linkLeft_of_capture (ht : s.wlc.tare.state ≠ .running) (hc : s.wce.capturing) :
    linkLeft s = endCapture (.unweighed .link) false s := by
  rw [linkLeft, failTare_of_not_running _ _ ht]
  exact if_pos hc

end Departure

/-! #### A reply in its place while reports are raised behind it -/

/-- Put a frame in the place of one that waits in the outbound queue. -/
def State.putOut (s : State) (place : Nat) (f : OutFrame) : State :=
  s.setClp { s.clp with outbound := s.clp.outbound.set place f }

section PutOut

variable {s : State} {place : Nat} (f : OutFrame) (h : place < s.clp.outbound.length)

include h

theorem raiseReport_putOut (r : Report) : raiseReport r (s.putOut place f) = (raiseReport r s).putOut place f := by
  have hout : (Clp.raise { s.clp with outbound := s.clp.outbound.set place f } r).outbound =
      (s.clp.raise r).outbound.set place f := by
    simp only [Clp.raise_outbound, List.length_set]
    split
    · rw [List.set_append_left _ _ h]
    · rfl
  simp only [raiseReport, State.putOut, State.setClp_clp]
  rw [← hout]
  rfl

/-- A latch looks at the change set and raises its report behind the frame. -/
theorem latch_putOut (src : ChangeSource) : latch src (s.putOut place f) = (latch src s).putOut place f := by
  have hgain : (s.putOut place f).setClp ((s.putOut place f).clp.gain src) =
      (s.setClp (s.clp.gain src)).putOut place f :=
    raiseReport_putOut (s := s.setClp { s.clp with changeSet := s.clp.changeSet ||| src.mask }) f h
      (.change src (s.clp.changeSet ||| src.mask))
  rw [latch_eq, latch_eq, apply_ite (State.putOut · place f), hgain]
  rfl

theorem endTare_putOut (st : TareState) : endTare st (s.putOut place f) = (endTare st s).putOut place f :=
  latch_putOut (s := s.setWlc { s.wlc with tare := { s.wlc.tare with state := st } }) f h .tareEnded

theorem endCapture_putOut (outcome : CaptureOutcome) (below : Bool) :
    endCapture outcome below (s.putOut place f) = (endCapture outcome below s).putOut place f :=
  raiseReport_putOut f (s := s.setWce { s.wce with
    window := [], suspendDue := none, state := .held, held := some (pendingLift outcome below s.wce) }) h _

theorem failTare_putOut (reason : TareReason) :
    failTare reason (s.putOut place f) = (failTare reason s).putOut place f := by
  by_cases ht : s.wlc.tare.state = .running
  · rw [failTare_of_running s _ ht, failTare_of_running (s.putOut place f) _ ht, endTare_putOut f h]
  · rw [failTare_of_not_running s _ ht, failTare_of_not_running (s.putOut place f) _ ht]

theorem engineLinkLeft_putOut : engineLinkLeft (s.putOut place f) = (engineLinkLeft s).putOut place f := by
  unfold engineLinkLeft
  rw [apply_ite (State.putOut · place f), endUnweighed, endUnweighed, endCapture_putOut f h]
  rfl

omit h in
theorem failTare_outbound_le (reason : TareReason) (s : State) :
    s.clp.outbound.length ≤ (failTare reason s).clp.outbound.length := by
  unfold failTare
  split
  · obtain ⟨more, hmore⟩ := latch_prefix .tareEnded
      (s.setWlc { s.wlc with tare := { s.wlc.tare with state := .failed reason } })
    rw [endTare, hmore]
    simp
  · exact le_rfl

/-- The reports of a departure stand behind a frame that waits (R183). -/
theorem linkLeft_putOut : linkLeft (s.putOut place f) = (linkLeft s).putOut place f := by
  rw [linkLeft, failTare_putOut f h]
  exact engineLinkLeft_putOut f (h.trans_le (failTare_outbound_le _ _))

end PutOut

/-! #### Link status -/

theorem calValid_iff (s : State) : s.calValid = true ↔
    ∃ h, s.wlc.identity = some h ∧ s.settings.calRecord.bound = some h.serial ∧
      s.settings.calRecord.tareDone = true := by
  unfold State.calValid
  cases s.wlc.identity <;> cases s.settings.calRecord.bound <;> simp

theorem trimInForce_of_bound {s : State} {h : HeadIdentity} (hi : s.wlc.identity = some h)
    (hb : s.settings.calRecord.bound = some h.serial) : s.trimInForce = s.settings.calRecord.trim := by
  simp [State.trimInForce, hi, hb]

theorem trimInForce_of_unbound {s : State}
    (h : ¬∃ h, s.wlc.identity = some h ∧ s.settings.calRecord.bound = some h.serial) : s.trimInForce = 1000 := by
  unfold State.trimInForce
  split
  · rename_i head b hi hb
    rw [if_neg]
    rintro rfl
    exact h ⟨head, hi, hb⟩
  · rfl

/-! #### The four requests, next to be taken -/

@[simp] theorem takenState_wlc (dt : Nat) (f : InFrame) (rest : List InFrame) (s : State) :
    (takenState dt f rest s).wlc = s.wlc := rfl

@[simp] theorem takenState_wce (dt : Nat) (f : InFrame) (rest : List InFrame) (s : State) :
    (takenState dt f rest s).wce = s.wce := rfl

section Asked

variable {s : State} {tag : Byte} {fields : List Byte} {rest : List InFrame} (dt : Nat)

theorem exec_linkStatus_asked (h : s.asked 0x50#8 tag [] rest) :
    exec (.linkStatus dt) s = .next (s.replied dt rest 0x50#8 tag .done (.linkStatus s.linkStatus)) := by
  rw [show exec (.linkStatus dt) s = _ from asked_decoded (x := ()) linkStatusOwner h rfl]
  exact congrArg _ (putReply_same dt 0x50#8 tag [] rest s .done _)

/-- The link repowered by a Link reset, before the ends of a tare and a capture (R37). -/
def State.repowered (s : State) (ends : Nat) : State :=
  s.setWlc { s.wlc.abandon with
    state := .powering, cause := .none, supply := false, identity := none, history := [], activity := .offTime ends }

theorem exec_linkReset_headless (h : s.asked 0x51#8 tag [] rest) (ha : s.wlc.state = .absent)
    (hd : s.wlc.detect = false) :
    exec (.linkReset dt) s = .next (s.replied dt rest 0x51#8 tag .noLink .none) := by
  rw [show exec (.linkReset dt) s = _ from asked_decoded (x := ()) linkResetOwner h rfl, linkResetOwner,
    if_pos (by simp [ha, hd])]
  exact congrArg _ (putReply_refuse dt 0x51#8 tag [] rest s .noLink)

/-- The ends of a tare and of a capture stand behind the reply (R37, R183). -/
theorem exec_linkReset_headed (h : s.asked 0x51#8 tag [] rest) (hd : s.wlc.state ≠ .absent ∨ s.wlc.detect = true) :
    exec (.linkReset dt) s =
      .next (linkLeft ((s.replied dt rest 0x51#8 tag .accepted .none).repowered (s.now + dt + 20))) := by
  rw [show exec (.linkReset dt) s = _ from asked_decoded (x := ()) linkResetOwner h rfl, linkResetOwner,
    if_neg (by rcases hd with hd | hd <;> simp [hd])]
  have htaken : s.clp.outbound.length <
      ((takenState dt { kind := 0x51#8, tag := tag, fields := [] } rest s).repowered
        (s.now + dt + 20)).clp.outbound.length := by
    simp [takenState, takeFrame, State.repowered]
  refine congrArg _ ((linkLeft_putOut (.reply 0x51#8 tag .accepted .none) htaken).symm.trans (congrArg linkLeft ?_))
  simp [State.putOut, State.repowered, takenState, takeFrame, State.replied, Clp.answered, State.setClp, State.setWlc,
    State.tick, State.setNow]

theorem exec_calibrate_bad {r : CalibrateRequest} (h : s.asked 0x52#8 tag fields rest)
    (hx : decodeAll readCalibrate fields = some r) (hbad : ∃ x ∈ r.trim, x < 900 ∨ 1100 < x) :
    exec (.calibrate dt) s = .next (s.replied dt rest 0x52#8 tag .badField .none) := by
  obtain ⟨x, hxr, hrange⟩ := hbad
  have hrefused : optRange 900 1100 r.trim = false := by
    rw [Option.mem_def.1 hxr, Bool.eq_false_iff]
    simp
    omega
  rw [show exec (.calibrate dt) s = _ from asked_decoded calibrateOwner h hx, calibrateOwner, hrefused]
  exact congrArg _ (putReply_refuse dt 0x52#8 tag fields rest s .badField)

theorem weighing_iff (s : State) : s.weighing = true ↔
    s.wce.state = .collecting ∨ s.wce.state = .suspended ∨ s.wlc.tare.state = .running := by
  simp [State.weighing, Wce.capturing, or_assoc]

theorem exec_calibrate_busy {r : CalibrateRequest} (h : s.asked 0x52#8 tag fields rest)
    (hx : decodeAll readCalibrate fields = some r) (hgood : optRange 900 1100 r.trim = true)
    (hbusy : (r.trim.isSome && s.weighing) = true) :
    exec (.calibrate dt) s = .next (s.replied dt rest 0x52#8 tag .busy .none) := by
  rw [show exec (.calibrate dt) s = _ from asked_decoded calibrateOwner h hx, calibrateOwner, hgood]
  refine congrArg _ (Eq.trans ?_ (putReply_refuse dt 0x52#8 tag fields rest s .busy))
  exact congrArg _ (if_pos hbusy)

theorem exec_calibrate_done {r : CalibrateRequest} {c : CalRecord} {auto : Bool} (h : s.asked 0x52#8 tag fields rest)
    (hx : decodeAll readCalibrate fields = some r) (hgood : optRange 900 1100 r.trim = true)
    (hfree : (r.trim.isSome && s.weighing) ≠ true)
    (hc : c = { s.settings.calRecord with trim := r.trim.getD s.settings.calRecord.trim })
    (ha : auto = r.autoPower.getD s.settings.autoPower) :
    exec (.calibrate dt) s =
      .next ((s.replied dt rest 0x52#8 tag .done (.calibrate c s.calValid auto)).setSettings
        { s.settings with calRecord := c, autoPower := auto }) := by
  subst hc ha
  rw [show exec (.calibrate dt) s = _ from asked_decoded calibrateOwner h hx, calibrateOwner, hgood]
  refine congrArg _ (Eq.trans (congrArg _ (if_neg hfree)) ?_)
  exact putReply_settings dt 0x52#8 tag fields rest s _ _

theorem exec_tare_running (h : s.asked 0x53#8 tag [] rest) (ht : s.wlc.tare.state = .running) :
    exec (.tare dt) s = .next (s.replied dt rest 0x53#8 tag .busy .none) := by
  rw [show exec (.tare dt) s = _ from asked_decoded (x := ()) tareOwner h rfl, tareOwner, takenState_wlc, if_pos ht]
  exact congrArg _ (putReply_refuse dt 0x53#8 tag [] rest s .busy)

theorem exec_tare_unlinked (h : s.asked 0x53#8 tag [] rest) (ht : s.wlc.tare.state ≠ .running)
    (hl : s.wlc.state ≠ .running) :
    exec (.tare dt) s = .next (s.replied dt rest 0x53#8 tag .noLink .none) := by
  rw [show exec (.tare dt) s = _ from asked_decoded (x := ()) tareOwner h rfl, tareOwner, takenState_wlc, if_neg ht,
    if_pos hl]
  exact congrArg _ (putReply_refuse dt 0x53#8 tag [] rest s .noLink)

theorem exec_tare_gripped (h : s.asked 0x53#8 tag [] rest) (ht : s.wlc.tare.state ≠ .running)
    (hl : s.wlc.state = .running) (he : s.wce.state ≠ .idle) :
    exec (.tare dt) s = .next (s.replied dt rest 0x53#8 tag .busy .none) := by
  rw [show exec (.tare dt) s = _ from asked_decoded (x := ()) tareOwner h rfl, tareOwner, takenState_wlc, if_neg ht,
    if_neg (not_not.2 hl), takenState_wce, if_pos he]
  exact congrArg _ (putReply_refuse dt 0x53#8 tag [] rest s .busy)

theorem exec_tare_started (h : s.asked 0x53#8 tag [] rest) (ht : s.wlc.tare.state ≠ .running)
    (hl : s.wlc.state = .running) (he : s.wce.state = .idle) :
    exec (.tare dt) s =
      .next ((s.replied dt rest 0x53#8 tag .accepted .none).putTare
        { state := .running, accepted := 0, rejected := 0, sum := 0 }) := by
  rw [show exec (.tare dt) s = _ from asked_decoded (x := ()) tareOwner h rfl, tareOwner, takenState_wlc, if_neg ht,
    if_neg (not_not.2 hl), takenState_wce, if_neg (not_not.2 he)]
  simp [putReply, takenState, takeFrame, State.replied, Clp.answered, State.setClp, State.putTare, State.setWlc]

end Asked

/-- Settles O50, a request at a time. -/
theorem linkRequestsAct : Obligations.LinkRequestsAct := by
  intro s dt tag fields rest
  refine ⟨fun h => ?_, fun h => ?_, fun r h hx => ?_, fun h => ?_, fun ht hcollecting hsuspended => ?_,
    fun ht hcollecting hsuspended => ?_, fun ht hcapture => ?_⟩
  · exact ⟨s.linkStatus, exec_linkStatus_asked dt h, rfl, rfl, rfl, rfl, rfl, rfl, rfl, rfl, rfl, calValid_iff s,
      fun ⟨_, hi, hb⟩ => trimInForce_of_bound hi hb, trimInForce_of_unbound, rfl, rfl, rfl, rfl, rfl, rfl, rfl⟩
  · exact ⟨exec_linkReset_headless dt h, fun hd => ⟨_, rfl, exec_linkReset_headed dt h hd⟩⟩
  · refine ⟨exec_calibrate_bad dt h hx, fun busy hrange hbusy => ?_⟩
    have hgood : optRange 900 1100 r.trim = true := (optRange_iff _ _ _).2 fun x hxr => hrange x hxr
    have hbusy : busy ↔ (r.trim.isSome && s.weighing) = true := by
      rw [hbusy, Bool.and_eq_true, weighing_iff, Option.isSome_iff_ne_none]
    exact ⟨fun hb => exec_calibrate_busy dt h hx hgood (hbusy.1 hb),
      fun hb => ⟨_, rfl, exec_calibrate_done dt h hx hgood (fun hw => hb (hbusy.2 hw)) rfl rfl⟩⟩
  · exact ⟨exec_tare_running dt h, exec_tare_unlinked dt h, exec_tare_gripped dt h, exec_tare_started dt h⟩
  · exact linkLeft_of_quiet ht (by simp [Wce.capturing_iff, hcollecting, hsuspended])
  · exact linkLeft_of_tare ht (by simp [Wce.capturing_iff, hcollecting, hsuspended])
  · exact linkLeft_of_capture ht ((Wce.capturing_iff _).2 hcapture)

end Sys2Proof.Machine
end

section
/-! ### The detect line and the link's timers -/

namespace Sys2Proof.Machine

open Sys2Proof

/-- A latch and a change of the link do not touch each other. -/
theorem latch_setWlc (src : ChangeSource) (s : State) (w : Wlc) : latch src (s.setWlc w) = (latch src s).setWlc w := by
  rw [latch_eq, latch_eq, apply_ite (State.setWlc · w)]
  rfl

/-! #### Each timer at its instant and before it -/

section Timers

variable {s : State}

theorem isDue_of_early {now : Nat} {due : Option Nat} (h : ∀ x, due = some x → now < x) : isDue now due = false := by
  cases due with
  | none => rfl
  | some x => simpa using h x rfl

theorem debounceExpired_of_due {due : Nat} (hd : s.wlc.debounceDue = some due) (h : due ≤ s.now) :
    debounceExpired s = if s.wlc.detect then becameAbsent s else becamePresent s := by
  simp [debounceExpired, hd, h]

theorem debounceExpired_of_early (h : ∀ due, s.wlc.debounceDue = some due → s.now < due) : debounceExpired s = s := by
  simp [debounceExpired, isDue_of_early h]

/-- A head that is found ABSENT with auto power on is powered; LinkAttached does not look at the link (R20, R21). -/
theorem becamePresent_eq (s : State) : becamePresent s =
    latch .linkAttached (s.setWlc
      (if s.wlc.state = .absent ∧ s.settings.autoPower = true then
        { s.wlc with
          detect := true, debounceDue := none, state := .powering, supply := true
          activity := .settling (s.now + linkSettleTime) }
      else { s.wlc with detect := true, debounceDue := none })) := by
  by_cases h : s.wlc.state = .absent ∧ s.settings.autoPower = true
  · simp only [becamePresent, latch_settings, State.setWlc_wlc, State.setWlc_settings, h, decide_true,
      Bool.and_self, if_true, and_self, powerOn, latch_setWlc, latch_now, State.setWlc_now]
    rfl
  · have hstay : (decide (s.wlc.state = .absent) && s.settings.autoPower) ≠ true := by simpa using h
    simp only [becamePresent, latch_wlc, latch_settings, State.setWlc_wlc, State.setWlc_settings, if_neg hstay,
      if_neg h]

/-- A head that is gone leaves an ABSENT link; LinkRemoved does not look at it (R20, R22). -/
theorem becameAbsent_eq (s : State) : becameAbsent s =
    linkLeft (latch .linkRemoved (s.setWlc
      { s.wlc.abandon with
        detect := false, debounceDue := none, state := .absent, cause := .none, supply := false, identity := none
        failures := 0, history := [] })) := by
  rw [becameAbsent, enterAbsent, latch_wlc, latch_setWlc, latch_setWlc]
  rfl

theorem powerOffTimeExpired_of_due {ends : Nat} (ha : s.wlc.activity = .offTime ends) (h : ends ≤ s.now) :
    powerOffTimeExpired s =
      s.setWlc { s.wlc with supply := true, activity := .settling (s.now + linkSettleTime) } := by
  simp only [powerOffTimeExpired, ha, if_pos h]

theorem powerOffTimeExpired_of_early (h : ∀ ends, s.wlc.activity = .offTime ends → s.now < ends) :
    powerOffTimeExpired s = s := by
  unfold powerOffTimeExpired
  split
  · rename_i ends ha
    exact if_neg (not_le.2 (h ends ha))
  · rfl

theorem linkSettleExpired_of_due {ends : Nat} (ha : s.wlc.activity = .settling ends) (h : ends ≤ s.now) :
    linkSettleExpired s = enterIdentifying [] s := by
  simp only [linkSettleExpired, ha, if_pos h]

theorem linkSettleExpired_of_early (h : ∀ ends, s.wlc.activity = .settling ends → s.now < ends) :
    linkSettleExpired s = s := by
  unfold linkSettleExpired
  split
  · rename_i ends ha
    exact if_neg (not_le.2 (h ends ha))
  · rfl

theorem identityRetried_of_due {due : Nat} (ha : s.wlc.activity = .retryWait due) (h : due ≤ s.now) :
    identityRetried s = s.setWlc { s.wlc with activity := .reading s.now, sent := [.identityRequest] } := by
  simp only [identityRetried, ha, if_pos h]

theorem identityRetried_of_early (h : ∀ due, s.wlc.activity = .retryWait due → s.now < due) :
    identityRetried s = s := by
  unfold identityRetried
  split
  · rename_i due ha
    exact if_neg (not_le.2 (h due ha))
  · rfl

theorem pollMade_of_due {due : Nat} (ha : s.wlc.activity = .pollWait due) (h : due ≤ s.now) :
    pollMade s = makePoll s := by
  simp only [pollMade, ha, if_pos h]

theorem pollMade_of_early (h : ∀ due, s.wlc.activity = .pollWait due → s.now < due) : pollMade s = s := by
  unfold pollMade
  split
  · rename_i due ha
    exact if_neg (not_le.2 (h due ha))
  · rfl

/-- The released lines: a clock held low fails the link, a free data line ends the recovery, a held one is pulsed
(R33). -/
theorem linesRead_of_due {due : Nat} (clock data : Bool) (ha : s.wlc.activity = .lineRelease due) (h : due ≤ s.now) :
    linesRead clock data s =
      if clock = false then enterFailed .stuckClock s
      else if data = true then enterIdentifying [] s
      else sendPulse 1 s := by
  simp only [linesRead, ha, if_pos h, Bool.not_eq_true']

theorem linesRead_of_early (clock data : Bool) (h : ∀ due, s.wlc.activity = .lineRelease due → s.now < due) :
    linesRead clock data s = s := by
  unfold linesRead
  split
  · rename_i due ha
    exact if_neg (not_le.2 (h due ha))
  · rfl

theorem pulseEnded_of_due {pulse due : Nat} (data : Bool) (ha : s.wlc.activity = .pulsing pulse due)
    (h : due ≤ s.now) :
    pulseEnded data s =
      if data = true then enterIdentifying [.endMarker] s
      else if 9 ≤ pulse then enterFailed .stuckData s
      else sendPulse (pulse + 1) s := by
  simp only [pulseEnded, ha, if_pos h]

theorem pulseEnded_of_early (data : Bool) (h : ∀ pulse due, s.wlc.activity = .pulsing pulse due → s.now < due) :
    pulseEnded data s = s := by
  unfold pulseEnded
  split
  · rename_i pulse due ha
    exact if_neg (not_le.2 (h pulse due ha))
  · rfl

end Timers

/-- Settles O56: each timer at its instant, and nothing before it. -/
theorem linkTimersMoveLink : Obligations.LinkTimersMoveLink := by
  intro s dt now identifying failed hmain hnow hidentifying hfailed
  subst hnow hidentifying
  have hcauses : ∀ cause, failed cause = enterFailed cause (s.tick dt) := hfailed
  have hsupplied (act : State → State) {t : State} (h : act (s.tick dt) = t) : onSupply dt s act = .next t :=
    (onSupply_main dt s act hmain).trans (congrArg _ h)
  refine ⟨fun level => ?_, fun due hd h => ⟨fun hdetect => ?_, fun hdetect => ?_⟩,
    fun h => hsupplied _ (debounceExpired_of_early h), fun ends ha h => hsupplied _ (powerOffTimeExpired_of_due ha h),
    fun h => hsupplied _ (powerOffTimeExpired_of_early h), fun ends ha h => hsupplied _ (linkSettleExpired_of_due ha h),
    fun h => hsupplied _ (linkSettleExpired_of_early h), fun due ha h => hsupplied _ (identityRetried_of_due ha h),
    fun h => hsupplied _ (identityRetried_of_early h), fun due ha h => hsupplied _ (pollMade_of_due ha h),
    fun h => hsupplied _ (pollMade_of_early h), fun due clock data ha h => ?_,
    fun h clock data => hsupplied _ (linesRead_of_early clock data h), fun pulse due data ha h => ?_,
    fun h data => hsupplied _ (pulseEnded_of_early data h)⟩
  · exact congrArg _ (if_pos hmain)
  · refine hsupplied _ ((debounceExpired_of_due (s := s.tick dt) hd h).trans ((if_pos hdetect).trans ?_))
    exact becameAbsent_eq _
  · refine hsupplied _ ((debounceExpired_of_due (s := s.tick dt) hd h).trans ((if_neg (by simp [hdetect])).trans ?_))
    exact becamePresent_eq _
  · rw [hcauses]
    exact hsupplied _ (linesRead_of_due clock data ha h)
  · rw [hcauses]
    exact hsupplied _ (pulseEnded_of_due data ha h)

end Sys2Proof.Machine
end

section
/-! ### The end of an identity read -/

namespace Sys2Proof.Machine

open Sys2Proof

/-! #### A valid read -/

/-- The lift-trigger test of an ARMED engine is the demand event's, and no other state has one (R53). -/
theorem triggerArmed_eq (s : State) : triggerArmed s = if s.wce.state = .armed then liftConditions s else s := by
  by_cases h : s.wce.state = .armed
  · rw [if_pos h]
    simp only [liftConditions, h]
  · rw [if_neg h]
    exact if_neg (by simp [h])

/-- Check, rating and K of a record that does not fail its read, as R25 writes them. -/
theorem identityReadOk_iff (a : IdentityAnswer) : identityReadOk a = true ↔
    crc8 (bytesOf32 a.serial ++ bytesOf16 a.rating ++ bytesOf16 a.zero ++ bytesOf16 a.scale) = a.check ∧
      10000 ≤ a.rating.toNat ∧ a.rating.toNat ≤ 60000 ∧ 1 ≤ a.scale.toNat ∧ a.scale.toNat ≤ 16383 := by
  simp only [identityReadOk, identityBody, Bool.and_eq_true, beq_iff_eq, inRange_iff, and_assoc]

theorem boundElsewhere_iff (c : CalRecord) (serial : Nat) :
    boundElsewhere c serial = true ↔ ¬(c.bound = none ∨ c.bound = some serial) := by
  unfold boundElsewhere
  cases c.bound <;> simp

/-- The unbinding of a record and its latch do not look at the link (R26). -/
theorem compareSerial_setWlc (serial : Nat) (s : State) (w : Wlc) :
    compareSerial serial (s.setWlc w) = (compareSerial serial s).setWlc w := by
  unfold compareSerial
  rw [apply_ite (State.setWlc · w), ← latch_setWlc]
  rfl

/-- The link after a valid read of a head, with its first poll made (R26, R29). -/
def State.linkRunning (s : State) (head : HeadIdentity) : State :=
  s.setWlc { s.wlc with
    identity := some head
    state := .running
    failures := 0
    ring := []
    activity := .polling s.wlc.nextPoll s.now
    sent := [.sampleRequest]
    nextPoll := (s.wlc.nextPoll + 1) % 65536 }

theorem identityValid_eq (head : HeadIdentity) (s : State) :
    identityValid head s = triggerArmed (compareSerial head.serial (s.linkRunning head)) := by
  have hnow : (compareSerial head.serial s).now = s.now := by
    unfold compareSerial
    split <;> simp
  simp only [identityValid, enterRunning, makePoll, State.linkRunning, compareSerial_setWlc, State.setWlc_wlc,
    State.setWlc_now, hnow]
  rfl

theorem compareSerial_eq (serial : Nat) (s : State) : compareSerial serial s =
    if s.settings.calRecord.bound = none ∨ s.settings.calRecord.bound = some serial then s
    else latch .calMismatch
      { s with settings := { s.settings with
          calRecord := { s.settings.calRecord with bound := none, tareDone := false } } } := by
  by_cases h : s.settings.calRecord.bound = none ∨ s.settings.calRecord.bound = some serial
  · rw [if_pos h]
    exact if_neg fun he => (boundElsewhere_iff _ _).1 he h
  · rw [if_neg h]
    exact if_pos ((boundElsewhere_iff _ _).2 h)

/-! #### The end of a read, by its answer -/

section Read

variable {s : State} {began : Nat}

theorem identityReadEnded_of_good {a : IdentityAnswer} (ha : s.wlc.activity = .reading began)
    (h : s.now ≤ began + 3) (hok : identityReadOk a = true) :
    identityReadEnded (some a) s = identityValid (identityOf a) s := by
  simp only [identityReadEnded, ha, answerTime, h, hok, decide_true, Bool.and_self, if_true]

theorem identityReadEnded_of_bad {a : IdentityAnswer} (ha : s.wlc.activity = .reading began)
    (h : ¬(s.now ≤ began + 3 ∧ identityReadOk a = true)) :
    identityReadEnded (some a) s = identityFailed began s := by
  have hbad : ¬(decide (s.now ≤ began + answerTime) && identityReadOk a) = true := by
    rwa [Bool.and_eq_true, decide_eq_true_eq]
  simp only [identityReadEnded, ha, if_neg hbad]

theorem identityReadEnded_of_none (ha : s.wlc.activity = .reading began) (h : began + 3 ≤ s.now) :
    identityReadEnded none s = identityFailed began s := by
  simp only [identityReadEnded, ha]
  exact if_pos h

theorem identityReadEnded_of_early (ha : s.wlc.activity = .reading began) (h : s.now < began + 3) :
    identityReadEnded none s = s := by
  simp only [identityReadEnded, ha]
  exact if_neg (not_le.2 h)

theorem identityReadEnded_of_other (answer : Option IdentityAnswer) (h : ∀ began, s.wlc.activity ≠ .reading began) :
    identityReadEnded answer s = s := by
  unfold identityReadEnded
  split
  · rename_i began ha
    exact absurd ha (h began)
  · rfl

theorem identityFailed_of_few (h : s.wlc.failedReads < 2) :
    identityFailed began s =
      s.setWlc { s.wlc with failedReads := s.wlc.failedReads + 1, activity := .retryWait (began + 10) } :=
  if_neg (show ¬3 ≤ s.wlc.failedReads + 1 by omega)

/-- The third failed read gives FAILED as NoIdentity (R25). -/
theorem identityFailed_of_third (h : 2 ≤ s.wlc.failedReads) :
    identityFailed began s =
      enterFailed .noIdentity
        (s.setWlc { s.wlc with failedReads := s.wlc.failedReads + 1, activity := .retryWait (began + 10) }) :=
  if_pos (show 3 ≤ s.wlc.failedReads + 1 by omega)

end Read

/-- Settles O57: a good record inside the 3 ms identifies the head, every other end is a failed read. -/
theorem identityReadIdentifiesHead : Obligations.IdentityReadIdentifiesHead := by
  intro s dt now answer hmain hnow
  subst hnow
  have hsupplied {t : State} (h : identityReadEnded answer (s.tick dt) = t) :
      exec (.identityReadEnd dt answer) s = .next t :=
    (onSupply_main dt s _ hmain).trans (congrArg _ h)
  refine ⟨fun began ha good hgood => ⟨fun a h => ?_, fun hnone hdue => ?_, fun hanswer h => ?_⟩,
    fun h => hsupplied (identityReadEnded_of_other (s := s.tick dt) answer h)⟩
  · obtain ⟨rfl, hin, hok⟩ := (hgood a).1 h
    refine ⟨_, _, rfl, rfl, hsupplied ?_⟩
    rw [identityReadEnded_of_good (s := s.tick dt) ha hin ((identityReadOk_iff a).2 hok), identityValid_eq,
      triggerArmed_eq, compareSerial_wce, compareSerial_eq]
    rfl
  · have hfailed : identityReadEnded answer (s.tick dt) = identityFailed began (s.tick dt) := by
      cases answer with
      | none => exact identityReadEnded_of_none (s := s.tick dt) ha (hdue rfl)
      | some a =>
        refine identityReadEnded_of_bad (s := s.tick dt) ha fun ⟨hin, hok⟩ => hnone ⟨a, (hgood a).2 ⟨rfl, hin, ?_⟩⟩
        exact (identityReadOk_iff a).1 hok
    exact ⟨fun hfew => hsupplied (hfailed.trans (identityFailed_of_few hfew)),
      fun hthird => hsupplied (hfailed.trans (identityFailed_of_third hthird))⟩
  · subst hanswer
    exact hsupplied (identityReadEnded_of_early (s := s.tick dt) ha h)

end Sys2Proof.Machine
end

section
/-! ### The completion of a poll -/

namespace Sys2Proof.Machine

open Sys2Proof

/-! #### The outcome of an answer -/

/-- The head's status code of a known status (R27). -/
theorem statusOfCode_eq_none_iff (code : Nat) : statusOfCode code = none ↔ 3 < code := by
  rcases code with _ | _ | _ | _ | n <;> simp [statusOfCode]

/-- The published status by the head's code: an OK above the rating is an OVERLOAD (R27, R30). -/
theorem publishedStatus_of_code {h : HeadIdentity} {f : Int} {code : Nat} {st : SampleStatus}
    (hst : statusOfCode code = some st) :
    publishedStatus h f st =
      if code = 0 ∧ f ≤ h.rating then .ok
      else if code ≤ 1 then .overload
      else if code = 2 then .swingFault
      else .temp := by
  unfold statusOfCode at hst
  split at hst
  · obtain rfl := Option.some.inj hst
    by_cases hf : f ≤ h.rating
    · simp [publishedStatus, hf, not_lt.2 hf]
    · simp [publishedStatus, hf, not_le.1 hf]
  · obtain rfl := Option.some.inj hst
    simp [publishedStatus]
  · obtain rfl := Option.some.inj hst
    simp [publishedStatus]
  · obtain rfl := Option.some.inj hst
    simp [publishedStatus]
  · exact absurd hst nofun

theorem clampForce_eq (f : Int) : clampForce f = max (-5000) (min 40000 f) := clampInt_eq _ _ _ (by decide)

theorem clampForce_ne_iff (f : Int) : (clampForce f != f) = true ↔ f < -5000 ∨ 40000 < f := by
  rw [bne_iff_ne, clampForce_eq]
  omega

/-- A record that the tests of R28 accept: check, swing and status. -/
def SampleSound (a : SampleAnswer) : Prop :=
  crc8 (bytesOf16 a.count ++ bytesOf16 a.swing ++ [a.status]) = a.check ∧ a.swing.toNat ≤ 900 ∧ a.status.toNat ≤ 3

theorem answerOutcome_of_unsound {h : HeadIdentity} {trim : Nat} {a : SampleAnswer} (ha : ¬SampleSound a) :
    answerOutcome h trim a = .corrupt := by
  unfold answerOutcome
  split
  · rename_i st hst
    have hknown : a.status.toNat ≤ 3 := by
      by_contra hlt
      rw [(statusOfCode_eq_none_iff _).2 (not_le.1 hlt)] at hst
      exact absurd hst nofun
    refine if_neg fun hgood => ha ?_
    rw [Bool.and_eq_true, beq_iff_eq, decide_eq_true_eq] at hgood
    exact ⟨hgood.1, hgood.2, hknown⟩
  · rfl

theorem answerOutcome_of_sound {h : HeadIdentity} {trim : Nat} {a : SampleAnswer} {d : GoodSample} {f : Int}
    (ha : SampleSound a) (hf : f = rawForce h trim a.count.toNat) (hcount : d.count = a.count.toNat)
    (hswing : d.swing = a.swing.toNat) (hforce : d.force = max (-5000) (min 40000 f))
    (hclamped : d.clamped = true ↔ f < -5000 ∨ 40000 < f)
    (hstatus : d.status =
      if a.status.toNat = 0 ∧ f ≤ h.rating then .ok
      else if a.status.toNat ≤ 1 then .overload
      else if a.status.toNat = 2 then .swingFault
      else .temp) :
    answerOutcome h trim a = .good d := by
  obtain ⟨hcheck, hrange, hknown⟩ := ha
  subst hf
  obtain ⟨st, hst⟩ : ∃ st, statusOfCode a.status.toNat = some st := by
    rw [← Option.isSome_iff_exists, Option.isSome_iff_ne_none, Ne, statusOfCode_eq_none_iff]
    exact not_lt.2 hknown
  have hd : d = goodSample h trim a.count.toNat a.swing.toNat st := by
    obtain ⟨count, swing, status, force, clamped⟩ := d
    simp only [goodSample, GoodSample.mk.injEq]
    refine ⟨hcount, hswing, ?_, ?_, ?_⟩
    · rw [publishedStatus_of_code hst]
      exact hstatus
    · rw [clampForce_eq]
      exact hforce
    · rw [Bool.eq_iff_iff, clampForce_ne_iff]
      exact hclamped
  have hgood : (crc8 (sampleBody a) == a.check && decide (a.swing.toNat ≤ 900)) = true := by
    rw [Bool.and_eq_true, beq_iff_eq, decide_eq_true_eq]
    exact ⟨hcheck, hrange⟩
  simp only [answerOutcome, hst, if_pos hgood, hd]

/-! #### The end of a poll, by its answer -/

section Poll

variable {s : State} {head : HeadIdentity} {number began : Nat}

theorem pollEnded_of_other (answer : Option SampleAnswer) (h : ∀ number began, s.wlc.activity ≠ .polling number began) :
    pollEnded answer s = s := by
  unfold pollEnded
  split
  · rename_i number began head ha hi
    exact absurd ha (h number began)
  · rfl

section Open

variable (ha : s.wlc.activity = .polling number began) (hi : s.wlc.identity = some head)

include ha hi

theorem pollEnded_of_early (h : s.now < began + 3) : pollEnded none s = s := by
  simp only [pollEnded, ha, hi]
  exact if_neg (not_le.2 h)

theorem pollEnded_of_none (h : began + 3 ≤ s.now) :
    pollEnded none s = pollCompleted head number began .missing s := by
  simp only [pollEnded, ha, hi]
  exact if_pos h

theorem pollEnded_of_late {a : SampleAnswer} (h : ¬s.now ≤ began + 3) :
    pollEnded (some a) s = pollCompleted head number began .missing s := by
  simp only [pollEnded, ha, hi]
  exact if_neg h

theorem pollEnded_of_arrived {a : SampleAnswer} (h : s.now ≤ began + 3) :
    pollEnded (some a) s = pollCompleted head number began (answerOutcome head s.trimInForce a) s := by
  simp only [pollEnded, ha, hi]
  exact if_pos h

end Open

end Poll

/-! #### The published sample -/

section Published

variable {number began : Nat} {o : PollOutcome} {s : State}

theorem usableForce_isSome_iff (o : PollOutcome) :
    o.usableForce.isSome = true ↔ ∃ d, o = .good d ∧ d.status ≠ .swingFault := by
  cases o with
  | good d => by_cases h : d.status = .swingFault <;> simp [PollOutcome.usableForce, h]
  | corrupt => simp [PollOutcome.usableForce]
  | missing => simp [PollOutcome.usableForce]

theorem publishSample_ring_of_usable {d : GoodSample} (h : d.status ≠ .swingFault) :
    (publishSample number began (.good d) s).wlc.ring = ringPush 8 s.wlc.ring d.force := by
  simp [publishSample, PollOutcome.usableForce, h]

theorem publishSample_ring_of_unusable (h : ∀ d, o = .good d → d.status = .swingFault) :
    (publishSample number began o s).wlc.ring = s.wlc.ring := by
  have hnone : o.usableForce = none := by
    rw [← Option.not_isSome_iff_eq_none, usableForce_isSome_iff]
    rintro ⟨d, hd, hne⟩
    exact hne (h d hd)
  simp only [publishSample, State.setWlc_wlc, hnone]

/-- The link-force flag: a usable force is in the ring already, so the ring is not empty (R31, R32). -/
theorem publishedSample_linkForce_iff :
    (publishedSample number began o s).linkForce = true ↔
      (publishedSample number began o s).forceUsable = true ∧ s.wlc.state = .running := by
  have hring : o.usableForce.isSome = true → (publishSample number began o s).wlc.ring ≠ [] := by
    rw [usableForce_isSome_iff]
    rintro ⟨d, rfl, hne⟩
    rw [publishSample_ring_of_usable hne, ringPush]
    simp
  simp only [publishedSample, Bool.and_eq_true, decide_eq_true_eq, Bool.not_eq_true', List.isEmpty_eq_false_iff]
  constructor
  · rintro ⟨⟨hrun, -⟩, husable⟩
    exact ⟨husable, hrun⟩
  · rintro ⟨husable, hrun⟩
    exact ⟨⟨hrun, hring husable⟩, husable⟩

theorem publishSample_failures (number began : Nat) (o : PollOutcome) (s : State) :
    (publishSample number began o s).wlc.failures = if o.isGood then 0 else s.wlc.failures + 1 := rfl

theorem isGood_eq_false (h : ∀ d, o ≠ .good d) : o.isGood = false := by
  cases o with
  | good d => exact absurd rfl (h d)
  | corrupt => rfl
  | missing => rfl

end Published

/-! #### The third failure -/

theorem sampleTaken_history (head : HeadIdentity) (number began : Nat) (o : PollOutcome) (s : State) :
    (sampleTaken head number began o s).wlc.history = s.wlc.history := by
  rw [sampleTaken_wlc]
  rfl

section Third

variable {s : State}

theorem recoveryDecision_of_recent (h : 2 ≤ (recentEntries s.now s.wlc.history).length) :
    recoveryDecision s = enterFailed .unstable s :=
  if_neg (by omega)

theorem recoveryDecision_of_few (h : (recentEntries s.now s.wlc.history).length < 2) :
    recoveryDecision s = enterRecovering s :=
  if_pos (by omega)

/-- The history keeps its two latest entries (R34). -/
theorem enterRecovering_eq {now : Nat} {history : List Nat} (hnow : s.now = now) (hhistory : s.wlc.history = history)
    (h : history.length ≤ 2) :
    enterRecovering s =
      linkLeft (s.setWlc { s.wlc.abandon with
        state := .recovering
        history := (if history.length < 2 then history else history.tail) ++ [now]
        activity := .lineRelease (now + 1) }) := by
  subst hnow hhistory
  rw [← ringPush_eq 2 _ _ (by omega) h]
  rfl

end Third

/-- Settles O58: the outcome of the answer is published and taken, and the third failure leaves RUNNING. -/
theorem pollCompletionPublishesSample : Obligations.PollCompletionPublishesSample := by
  have hsupplied {s t : State} {dt : Nat} {answer : Option SampleAnswer} (hmain : s.power.main = true)
      (h : pollEnded answer (s.tick dt) = t) : exec (.pollCompletion dt answer) s = .next t :=
    (onSupply_main dt s _ hmain).trans (congrArg _ h)
  refine ⟨fun s dt answer hmain hother => hsupplied hmain (pollEnded_of_other answer hother), ?_⟩
  intro s dt now number began answer h hmain hnow ha hi
  subst hnow
  refine ⟨fun hnone hearly => ?_, ?_⟩
  · subst hnone
    exact hsupplied hmain (pollEnded_of_early (s := s.tick dt) ha hi hearly)
  intro arrived sound outcome f harrived hsound hf hdue hmissing hcorrupt hgood
  have hcompleted : pollEnded answer (s.tick dt) = pollCompleted h number began outcome (s.tick dt) := by
    cases answer with
    | none =>
      obtain rfl : outcome = .missing := hmissing fun ⟨a, ha⟩ => absurd ((harrived a).1 ha).1 nofun
      exact pollEnded_of_none (s := s.tick dt) ha hi (hdue rfl)
    | some a =>
      by_cases hin : s.now + dt ≤ began + 3
      · have harr : arrived a := (harrived a).2 ⟨rfl, hin⟩
        rw [pollEnded_of_arrived (s := s.tick dt) ha hi hin]
        by_cases hok : sound a
        · obtain ⟨d, rfl, hcount, hswing, hforce, hclamped, hstatus⟩ := hgood a harr hok
          exact congrArg (pollCompleted h number began · _)
            (answerOutcome_of_sound ((hsound a).1 hok) (hf a) hcount hswing hforce hclamped hstatus)
        · obtain rfl := hcorrupt a harr hok
          exact congrArg (pollCompleted h number began · _) (answerOutcome_of_unsound fun he => hok ((hsound a).2 he))
      · obtain rfl : outcome = .missing := hmissing fun ⟨b, hb⟩ => hin ((harrived b).1 hb).2
        exact pollEnded_of_late (s := s.tick dt) ha hi hin
  rw [pollCompleted_eq] at hcompleted
  refine ⟨publishedSample number began outcome (s.tick dt), publishSample number began outcome (s.tick dt),
    sampleTaken h number began outcome (s.tick dt), rfl, rfl, usableForce_isSome_iff _, publishedSample_linkForce_iff,
    rfl, ?_, ?_, ?_, publishSample_ring_of_unusable, rfl, ?_, fun hthird => ⟨?_, ?_⟩⟩
  · rintro d rfl
    rfl
  · intro hbad
    rw [publishSample_failures, isGood_eq_false hbad]
    rfl
  · rintro d rfl hne hlen
    rw [publishSample_ring_of_usable hne]
    exact ringPush_eq 8 _ _ (by omega) hlen
  · intro hfew
    exact hsupplied hmain (hcompleted.trans (if_neg (not_le.2 hfew)))
  · intro hrecent
    refine hsupplied hmain (hcompleted.trans ((if_pos hthird).trans (recoveryDecision_of_recent ?_)))
    rw [sampleTaken_history, sampleTaken_now]
    exact hrecent
  · intro hfew hlen
    refine hsupplied hmain (hcompleted.trans ((if_pos hthird).trans ((recoveryDecision_of_few ?_).trans ?_)))
    · rw [sampleTaken_history, sampleTaken_now]
      exact hfew
    · exact enterRecovering_eq (sampleTaken_now _ _ _ _ _) (sampleTaken_history _ _ _ _ _) hlen

end Sys2Proof.Machine
end

section
/-! ### A property that every step keeps, from what the events keep -/

namespace Sys2Proof.Machine

open Sys2Proof

section Keeps

variable {P : State → Prop} {dt : Nat} {s t : State}

/-- An event of the supplied part keeps what its action and the clock keep. -/
theorem onSupply_keeps {act : State → State} (hnow : ∀ s n, P s → P (s.setNow n)) (hact : ∀ s, P s → P (act s))
    (h : P s) (e : onSupply dt s act = .next t) : P t := by
  have htick : P (s.tick dt) := hnow s _ h
  rw [← Host.Outcome.next.inj e]
  split
  · exact hact _ htick
  · exact htick

/-- A request event keeps what its owner, the clock and the port keep. -/
theorem execRequest_keeps {α : Type} {kind : Byte} {reader : Reader α} {owner : α → State → Answer}
    (hnow : ∀ s n, P s → P (s.setNow n)) (hclp : ∀ s c, P s → P (s.setClp c))
    (howner : ∀ s x, P s → P (owner x s).state) (h : P s) (e : execRequest dt kind reader owner s = .next t) : P t := by
  refine onSupply_keeps hnow (fun s h => ?_) h e
  unfold takeRequest
  split
  · rename_i f rest _
    split
    · refine hclp _ _ ?_
      unfold answerFrame
      split
      · exact howner _ _ (hclp _ _ h)
      · exact hclp _ _ h
    · exact h
  · exact h

/-- A step keeps what every command keeps, whatever commands wait. -/
theorem step_keeps (hpending : ∀ s l, P s → P (s.setPending l)) (hexec : ∀ c s t, P s → exec c s = .next t → P t)
    (h : P s) (e : step s = .next t) : P t := by
  unfold step at e
  split at e
  · exact Host.Outcome.next.inj e ▸ h
  · exact hexec _ _ _ (hpending _ _ h) e

end Keeps

end Sys2Proof.Machine
end

section
/-! ### What the commands away from the weigh link, the engine and the tally leave of the trip record -/

namespace Sys2Proof.Machine

open Sys2Proof

section Events

variable (s : State)

@[simp] theorem State.ite_lt (p : Prop) [Decidable p] (a b : State) :
    (if p then a else b).lt = if p then a.lt else b.lt := apply_ite State.lt p a b

@[simp] theorem putReply_lt (place : Nat) (f : InFrame) (a : Answer) : (putReply place f a).lt = a.state.lt := rfl

@[simp] theorem takeFrame_lt (f : InFrame) (rest : List InFrame) : (takeFrame f rest s).lt = s.lt := rfl

@[simp] theorem failTare_lt (reason : TareReason) : (failTare reason s).lt = s.lt := by
  unfold failTare endTare
  split <;> simp

@[simp] theorem lockUnlessLocked_lt (cause : LockCause) : (lockUnlessLocked cause s).lt = s.lt := by
  simp [lockUnlessLocked, lockSupply]

@[simp] theorem driveSupply_lt (halt : Bool) : (driveSupply halt s).lt = s.lt := by simp [driveSupply, wakeSupply]

theorem supplySettleExpired_lt : (supplySettleExpired s).lt = s.lt := by simp [supplySettleExpired]

theorem idleTimerExpired_lt : (idleTimerExpired s).lt = s.lt := by simp [idleTimerExpired]

theorem drivePeriodTaken_lt (currents : Vector Nat 6) : (drivePeriodTaken currents s).lt = s.lt := by
  simp [drivePeriodTaken, publishSections, coilsAll, judgeAll, shapeAll]

theorem driverTripped_lt (v : ValveSection) : (driverTripped v s).lt = s.lt := by simp [driverTripped]

theorem scanned_lt (raw : Vector Nat 9) : (scanned raw s).lt = s.lt := by rw [scanned_frame]

theorem gapExpired_lt : (gapExpired s).lt = s.lt := by
  unfold gapExpired
  split <;> simp

theorem frameSent_lt : (frameSent s).lt = s.lt := by
  unfold frameSent
  split <;> simp

theorem unknownTaken_lt : (unknownTaken s).lt = s.lt := by
  unfold unknownTaken
  split <;> simp [refuse]

theorem storeCompleted_lt (checkMatches : Bool) : (storeCompleted checkMatches s).lt = s.lt := by
  unfold storeCompleted
  split <;> simp

end Events

section Requests

variable (s : State)

theorem statusOwner_lt (page : Nat) : (statusOwner page s).state.lt = s.lt := by
  unfold statusOwner
  split <;> rfl

theorem readChangesOwner_lt (u : Unit) : (readChangesOwner u s).state.lt = s.lt := by
  unfold readChangesOwner
  split <;> rfl

theorem sectionConfigOwner_lt (r : SectionConfigRequest) : (sectionConfigOwner r s).state.lt = s.lt := by
  unfold sectionConfigOwner
  split <;> simp [sectionConfigured]

theorem profileOwner_lt (r : ProfileRequest) : (profileOwner r s).state.lt = s.lt := by
  unfold profileOwner
  split
  · rfl
  · split <;> simp [profileWritten]

theorem releaseOwner_lt (u : Unit) : (releaseOwner u s).state.lt = s.lt := by simp [releaseOwner, released]

theorem faultClearOwner_lt (selector : Nat) : (faultClearOwner selector s).state.lt = s.lt := by
  simp [faultClearOwner, faultsCleared]

theorem captureOwner_lt (r : CaptureRequest) : (captureOwner r s).state.lt = s.lt := by simp [captureOwner]

theorem storeOwner_lt (u : Unit) : (storeOwner u s).state.lt = s.lt := by
  unfold storeOwner
  split <;> rfl

theorem zoneWriteOwner_lt (r : ZoneWriteRequest) : (zoneWriteOwner r s).state.lt = s.lt := by
  unfold zoneWriteOwner
  split <;> simp [State.putZone]

theorem zoneEnableOwner_lt (r : ZoneEnableRequest) : (zoneEnableOwner r s).state.lt = s.lt := by
  unfold zoneEnableOwner
  split <;> simp [State.putZone]

theorem zoneReadOwner_lt (n : Nat) : (zoneReadOwner n s).state.lt = s.lt := by
  unfold zoneReadOwner
  split <;> rfl

theorem limiterOwner_lt (r : LimiterRequest) : (limiterOwner r s).state.lt = s.lt := by
  simp [limiterOwner, limiterConfigured]

theorem ratedOwner_lt (r : List (Option Nat)) : (ratedOwner r s).state.lt = s.lt := by simp [ratedOwner, ratedWritten]

theorem channelOwner_lt (r : ChannelRequest) : (channelOwner r s).state.lt = s.lt := by
  unfold channelOwner
  split
  · rfl
  · split <;> simp [calibrated]

theorem geometryOwner_lt (r : GeometryRequest) : (geometryOwner r s).state.lt = s.lt := by
  simp [geometryOwner, geometryConfigured]

theorem readLiftsOwner_lt (r : ReadLiftsRequest) : (readLiftsOwner r s).state.lt = s.lt := by simp [readLiftsOwner]

theorem readTotalsOwner_lt (r : ReadTotalsRequest) : (readTotalsOwner r s).state.lt = s.lt := by
  unfold readTotalsOwner
  split
  · rfl
  · split
    · rfl
    · split <;> rfl

end Requests

end Sys2Proof.Machine
end

section
/-! ### The masses of the window, the pending lift and the list -/

namespace Sys2Proof.Machine

open Sys2Proof

/-! #### The arithmetic of a weighing -/

/-- Forces of at most 40 000 N have a mean of at most 40 000 N (R62). -/
theorem meanForce_le {sum n : Nat} (h : sum ≤ 40000 * n) : meanForce sum n ≤ 40000 := by
  rcases Nat.eq_zero_or_pos n with rfl | hn
  · simp [meanForce]
  · refine Nat.lt_succ_iff.1 (Nat.div_lt_of_lt_mul ?_)
    omega

/-- A mean of at most 40 000 N is a gross mass of at most 4 079 kg (R63). -/
theorem grossMass_le {mean : Nat} (h : mean ≤ 40000) : grossMass mean ≤ 4079 := by
  unfold grossMass
  omega

theorem windowSum_le {w : List WindowEntry} (h : ∀ x ∈ w, inRangeInt 0 40000 x.force) :
    windowSum w ≤ 40000 * w.length := by
  have hle : ∀ f ∈ w.map WindowEntry.force, f ≤ 40000 := by
    intro f hf
    obtain ⟨x, hx, rfl⟩ := List.mem_map.1 hf
    exact ((inRangeInt_iff _ _ _).1 (h x hx)).2
  have hsum := List.sum_le_card_nsmul _ _ hle
  rw [List.length_map, nsmul_eq_mul] at hsum
  unfold windowSum
  omega

theorem weighMass_net_le {w : List WindowEntry} (h : ∀ x ∈ w, inRangeInt 0 40000 x.force) (tare : Nat) :
    (weighMass w tare).net ≤ 4095 := by
  have hsum := windowSum_le h
  have hgross := grossMass_le (meanForce_le (sum := (windowSum w).toNat) (n := w.length) (by omega))
  dsimp only [weighMass]
  omega

/-- The capture accepts a sample with the OK status, the swing, the range and no mark (R56). -/
theorem acceptedForce_eq_some_iff {swingLimit : Nat} {x : Sample} {f : Int} :
    acceptedForce swingLimit x = some f ↔
      ∃ d, x.outcome = .good d ∧ (d.status = .ok ∧ d.swing ≤ swingLimit ∧ 0 ≤ d.force ∧ d.force ≤ 40000 ∧
        d.clamped = false) ∧ d.force = f := by
  unfold acceptedForce
  cases x.outcome with
  | good d => simp [and_assoc]
  | corrupt => simp
  | missing => simp

/-- A force that the capture accepts lies within 0..40 000 N (R56). -/
theorem acceptedForce_inRange {swingLimit : Nat} {x : Sample} {f : Int} (h : acceptedForce swingLimit x = some f) :
    inRangeInt 0 40000 f := by
  obtain ⟨d, -, ⟨-, -, hlo, hhi, -⟩, rfl⟩ := acceptedForce_eq_some_iff.1 h
  exact (inRangeInt_iff _ _ _).2 ⟨hlo, hhi⟩

/-! #### The engine's events -/

section Engine

variable {s t : State}

/-- The masses are those of the engine and of the trip record alone. -/
theorem State.MassesSound.congr (h : s.MassesSound) (hweigh : t.weigh = s.weigh) (hlt : t.lt = s.lt) :
    t.MassesSound := by
  have hwce : t.wce = s.wce := congrArg (·.2.1) hweigh
  simpa only [State.MassesSound, hwce, hlt] using h

/-- A change of the engine that leaves the window and the pending lift. -/
theorem State.MassesSound.setWce (h : s.MassesSound) {e : Wce} (hwindow : e.window = s.wce.window)
    (hheld : e.held = s.wce.held) : (s.setWce e).MassesSound := by
  simpa only [State.MassesSound, State.setWce_wce, State.setWce_lt, hwindow, hheld] using h

theorem failTare_massesSound (reason : TareReason) (h : s.MassesSound) : (failTare reason s).MassesSound := by
  simpa only [State.MassesSound, failTare_wce, failTare_lt] using h

/-- A capture's end keeps the masses when its outcome's mass is one a lift can have (R65). -/
theorem endCapture_massesSound {outcome : CaptureOutcome} (below : Bool)
    (hmass : massOk (outcome.masses.map WeighedMass.net)) (h : s.MassesSound) :
    (endCapture outcome below s).MassesSound := by
  obtain ⟨-, -, hlifts⟩ := h
  refine ⟨nofun, ?_, hlifts⟩
  rintro p ⟨⟩
  exact hmass

theorem endUnweighed_massesSound (reason : EndReason) (h : s.MassesSound) : (endUnweighed reason s).MassesSound :=
  endCapture_massesSound _ rfl h

theorem endWeighed_massesSound (h : s.MassesSound) : (endWeighed s).MassesSound := by
  refine endCapture_massesSound _ ?_ h
  simpa [massOk, CaptureOutcome.masses] using weighMass_net_le h.1 s.settings.calRecord.tare

/-- The link's departure ends a tare and a capture unweighed (R42, R61). -/
theorem linkLeft_massesSound (h : s.MassesSound) : (linkLeft s).MassesSound := by
  have hended := failTare_massesSound .link h
  unfold linkLeft engineLinkLeft
  split
  · exact endUnweighed_massesSound _ hended
  · exact hended

theorem evaluateWindow_massesSound (h : s.MassesSound) : (evaluateWindow s).MassesSound := by
  unfold evaluateWindow
  split
  · exact endWeighed_massesSound h
  · split
    · exact h.setWce rfl rfl
    · exact endUnweighed_massesSound _ h

theorem acceptSample_massesSound (poll : Nat) {force : Int} (hf : inRangeInt 0 40000 force) (h : s.MassesSound) :
    (acceptSample poll force s).MassesSound := by
  have hjoined : (s.setWce { s.wce with
      window := ringPush 32 s.wce.window { poll := poll, force := force }
      remaining := s.wce.remaining - 1
      accepted := s.wce.accepted + 1 }).MassesSound := by
    obtain ⟨hwindow, hheld, hlifts⟩ := h
    refine ⟨fun x hx => ?_, hheld, hlifts⟩
    rcases mem_ringPush hx with hx | rfl
    · exact hwindow x hx
    · exact hf
  unfold acceptSample
  dsimp only
  split
  · exact evaluateWindow_massesSound hjoined
  · exact hjoined

theorem rejectSample_massesSound (h : s.MassesSound) : (rejectSample s).MassesSound := by
  have hcounted : (s.setWce { s.wce with rejects := s.wce.rejects + 1 }).MassesSound := h.setWce rfl rfl
  unfold rejectSample
  dsimp only
  split
  · exact endUnweighed_massesSound _ hcounted
  · exact hcounted

theorem engineSample_massesSound (x : Sample) (h : s.MassesSound) : (engineSample x s).MassesSound := by
  unfold engineSample
  split
  · split
    · rename_i f hf
      exact acceptSample_massesSound _ (acceptedForce_inRange hf) h
    · exact rejectSample_massesSound h
  · exact h

/-- A capture starts with an empty window (R53). -/
theorem triggerArmed_massesSound (h : s.MassesSound) : (triggerArmed s).MassesSound := by
  obtain ⟨hwindow, hheld, hlifts⟩ := h
  unfold triggerArmed
  split
  · dsimp only
    split
    · exact ⟨nofun, hheld, hlifts⟩
    · exact ⟨hwindow, hheld, hlifts⟩
  · exact ⟨hwindow, hheld, hlifts⟩

theorem liftConditions_massesSound (h : s.MassesSound) : (liftConditions s).MassesSound := by
  unfold liftConditions
  split
  case h_1 => exact triggerArmed_massesSound h
  case h_2 | h_3 => split <;> exact h
  all_goals exact h

theorem closureEvent_massesSound (h : s.MassesSound) : (closureEvent s).MassesSound := by
  unfold closureEvent
  split
  · exact (failTare_massesSound .disturbed h).setWce rfl rfl
  · exact h

theorem closureTest_massesSound (h : s.MassesSound) : (closureTest s).MassesSound := by
  have hrun (run : Option Nat) : (s.setWce { s.wce with closureRun := run }).MassesSound := h.setWce rfl rfl
  unfold closureTest
  split
  · split
    · exact h
    · exact hrun _
  · split
    · exact h
    · dsimp only
      split
      · exact closureEvent_massesSound (hrun _)
      · exact hrun _

/-! #### Filing -/

@[simp] theorem payloadTest_lt (before : PayloadState) (s : State) : (payloadTest before s).lt = s.lt := by
  simp [payloadTest]

/-- A filing appends at most one record, with the mass filed (R81). -/
theorem mem_filed_lifts {t : Trip} {d : LiftDirection} {a : Fin 16} {mass : Option Nat} {flags : LiftFlags}
    {r : LiftRecord} (h : r ∈ (t.filed d a mass flags).lifts) : r ∈ t.lifts ∨ r.mass = mass := by
  simp only [Trip.filed, Trip.recompute] at h
  split at h
  · rcases List.mem_append.1 h with h | h
    · exact .inl h
    · exact .inr (by rw [List.mem_singleton.1 h]; rfl)
  · exact .inl h

theorem fileLift_massesSound (d : LiftDirection) (a : Fin 16) {mass : Option Nat} (flags : LiftFlags)
    (hmass : massOk mass) (h : s.MassesSound) : (fileLift d a mass flags s).1.MassesSound := by
  unfold fileLift
  split
  · have hfiled : (s.setLt (s.lt.filed d a mass flags)).MassesSound := by
      obtain ⟨hwindow, hheld, hlifts⟩ := h
      refine ⟨hwindow, hheld, fun r hr => ?_⟩
      rcases mem_filed_lifts hr with hr | hr
      · exact hlifts r hr
      · exact hr ▸ hmass
    exact hfiled.congr (by simp) (by simp)
  · exact h

/-- The mass handed over is the pending lift's net mass (R68). -/
theorem handedMass_eq (held : Option PendingLift) : handedMass held = held.bind PendingLift.net := by
  cases held with
  | none => rfl
  | some p =>
    cases h : p.outcome <;> simp [handedMass, PendingLift.net, CaptureOutcome.masses, h]

theorem handedMass_ok {held : Option PendingLift} (h : ∀ p ∈ held, massOk p.net) : massOk (handedMass held) := by
  rw [handedMass_eq]
  cases held with
  | none => rfl
  | some p => exact h p rfl

theorem handOver_massesSound (origin drop : BunkMembership) (h : s.MassesSound) :
    (handOver origin drop s).1.MassesSound := by
  unfold handOver
  split
  · exact fileLift_massesSound _ _ _ (handedMass_ok h.2.1) h
  · exact h

theorem closeGrip_massesSound (h : s.MassesSound) : (closeGrip s).MassesSound := by
  obtain ⟨hwindow, -, hlifts⟩ := handOver_massesSound s.wce.originOf s.evm.bunk h
  exact ⟨hwindow, nofun, hlifts⟩

theorem releaseEvent_massesSound (h : s.MassesSound) : (releaseEvent s).MassesSound := by
  unfold releaseEvent
  split
  case h_1 => exact h
  case h_5 | h_6 => exact closeGrip_massesSound (endUnweighed_massesSound _ h)
  all_goals exact closeGrip_massesSound h

theorem releaseTest_massesSound (h : s.MassesSound) : (releaseTest s).MassesSound := by
  have hedge (edge : Bool) : (s.setWce { s.wce with openEdge := edge }).MassesSound := h.setWce rfl rfl
  unfold releaseTest
  dsimp only
  split
  · exact releaseEvent_massesSound (hedge _)
  · exact hedge _

theorem demandEvent_massesSound (h : s.MassesSound) : (demandEvent s).MassesSound :=
  liftConditions_massesSound (releaseTest_massesSound (closureTest_massesSound h))

theorem demandExpired_massesSound (v : ValveSection) (h : s.MassesSound) : (demandExpired v s).MassesSound := by
  unfold demandExpired
  dsimp only
  split
  · exact demandEvent_massesSound (h.congr rfl rfl)
  · exact h

theorem suspendExpired_massesSound (h : s.MassesSound) : (suspendExpired s).MassesSound := by
  unfold suspendExpired
  split
  · exact endUnweighed_massesSound _ h
  · exact h

end Engine

/-! #### The weigh link's events -/

section Link

variable {s : State}

theorem enterFailed_massesSound (cause : LinkCause) (h : s.MassesSound) : (enterFailed cause s).MassesSound := by
  have hfailed (w : Wlc) : (s.setWlc w).MassesSound := h
  exact linkLeft_massesSound ((hfailed _).congr (latch_weigh _ _) (latch_lt _ _))

theorem debounceExpired_massesSound (h : s.MassesSound) : (debounceExpired s).MassesSound := by
  have hlatched (src : ChangeSource) (w : Wlc) : (latch src (s.setWlc w)).MassesSound :=
    State.MassesSound.congr (s := s.setWlc w) h (latch_weigh _ _) (latch_lt _ _)
  unfold debounceExpired
  split
  · split
    · exact linkLeft_massesSound (hlatched .linkRemoved _)
    · unfold becamePresent
      dsimp only
      split
      · exact hlatched .linkAttached _
      · exact hlatched .linkAttached _
  · exact h

theorem powerOffTimeExpired_massesSound (h : s.MassesSound) : (powerOffTimeExpired s).MassesSound := by
  unfold powerOffTimeExpired
  split
  · split <;> exact h
  · exact h

theorem linkSettleExpired_massesSound (h : s.MassesSound) : (linkSettleExpired s).MassesSound := by
  unfold linkSettleExpired
  split
  · split <;> exact h
  · exact h

@[simp] theorem compareSerial_lt (serial : Nat) (s : State) : (compareSerial serial s).lt = s.lt := by
  unfold compareSerial
  split <;> simp

theorem identityValid_massesSound (head : HeadIdentity) (h : s.MassesSound) : (identityValid head s).MassesSound := by
  refine triggerArmed_massesSound ?_
  simpa only [State.MassesSound, makePoll, State.setWlc_wce, State.setWlc_lt, compareSerial_wce, compareSerial_lt]
    using h

theorem identityFailed_massesSound (began : Nat) (h : s.MassesSound) : (identityFailed began s).MassesSound := by
  unfold identityFailed
  dsimp only
  split
  · exact enterFailed_massesSound _ h
  · exact h

theorem identityReadEnded_massesSound (answer : Option IdentityAnswer) (h : s.MassesSound) :
    (identityReadEnded answer s).MassesSound := by
  unfold identityReadEnded
  split
  · split
    · split
      · exact identityValid_massesSound _ h
      · exact identityFailed_massesSound _ h
    · split
      · exact identityFailed_massesSound _ h
      · exact h
  · exact h

theorem identityRetried_massesSound (h : s.MassesSound) : (identityRetried s).MassesSound := by
  unfold identityRetried
  split
  · split <;> exact h
  · exact h

theorem pollMade_massesSound (h : s.MassesSound) : (pollMade s).MassesSound := by
  unfold pollMade
  split
  · split <;> exact h
  · exact h

/-- A tare's samples leave the engine and the trip record (R40). -/
theorem tareSample_masses (head : HeadIdentity) (o : PollOutcome) (s : State) :
    (tareSample head o s).wce = s.wce ∧ (tareSample head o s).lt = s.lt := by
  unfold tareSample finishTare endTare
  split
  · split
    · dsimp only
      split
      · split <;> simp
      · exact ⟨rfl, rfl⟩
    · dsimp only
      split <;> simp
  · exact ⟨rfl, rfl⟩

theorem pollCompleted_massesSound (head : HeadIdentity) (number began : Nat) (o : PollOutcome) (h : s.MassesSound) :
    (pollCompleted head number began o s).MassesSound := by
  have htaken : (sampleTaken head number began o s).MassesSound := by
    obtain ⟨hwce, hlt⟩ := tareSample_masses head o
      (engineSample (publishedSample number began o s) (publishSample number began o s))
    have hpublished : (publishSample number began o s).MassesSound := h
    simpa only [State.MassesSound, sampleTaken, hwce, hlt] using engineSample_massesSound _ hpublished
  rw [pollCompleted_eq]
  split
  · unfold recoveryDecision
    split
    · exact linkLeft_massesSound htaken
    · exact enterFailed_massesSound _ htaken
  · exact htaken

theorem pollEnded_massesSound (answer : Option SampleAnswer) (h : s.MassesSound) :
    (pollEnded answer s).MassesSound := by
  unfold pollEnded
  split
  · split
    · split <;> exact pollCompleted_massesSound _ _ _ _ h
    · split
      · exact pollCompleted_massesSound _ _ _ _ h
      · exact h
  · exact h

theorem linesRead_massesSound (clock data : Bool) (h : s.MassesSound) : (linesRead clock data s).MassesSound := by
  unfold linesRead
  split
  · split
    · split
      · exact enterFailed_massesSound _ h
      · split <;> exact h
    · exact h
  · exact h

theorem pulseEnded_massesSound (data : Bool) (h : s.MassesSound) : (pulseEnded data s).MassesSound := by
  unfold pulseEnded
  split
  · split
    · split
      · exact h
      · split
        · exact enterFailed_massesSound _ h
        · exact h
    · exact h
  · exact h

end Link

/-! #### The requests of the engine, the link and the tally, and the restart -/

section Requests

variable {s : State}

theorem driveOwner_massesSound (s : State) (r : DriveRequest) (h : s.MassesSound) :
    (driveOwner r s).state.MassesSound := by
  unfold driveOwner
  split
  · exact h
  · exact (demandEvent_massesSound (s := driveHeld r s) (h.congr rfl rfl)).congr (driveSupply_weigh _ _)
      (driveSupply_lt _ _)

theorem armOwner_massesSound (s : State) (u : Unit) (h : s.MassesSound) : (armOwner u s).state.MassesSound := by
  unfold armOwner
  split
  case h_1 => exact h.setWce rfl rfl
  case h_2 =>
    unfold armGripped
    dsimp only
    split
    · exact triggerArmed_massesSound (h.setWce rfl rfl)
    · exact h.setWce rfl rfl
  all_goals exact h

theorem disarmOwner_massesSound (s : State) (u : Unit) (h : s.MassesSound) : (disarmOwner u s).state.MassesSound := by
  unfold disarmOwner
  split
  case h_1 | h_2 => exact h.setWce rfl rfl
  case h_3 | h_4 => exact endUnweighed_massesSound _ h
  all_goals exact h

theorem linkResetOwner_massesSound (s : State) (u : Unit) (h : s.MassesSound) :
    (linkResetOwner u s).state.MassesSound := by
  unfold linkResetOwner
  split
  · exact h
  · exact linkLeft_massesSound h

theorem calibrateOwner_massesSound (s : State) (r : CalibrateRequest) (h : s.MassesSound) :
    (calibrateOwner r s).state.MassesSound := by
  unfold calibrateOwner
  split
  · exact h
  · split <;> exact h

theorem tareOwner_massesSound (s : State) (u : Unit) (h : s.MassesSound) : (tareOwner u s).state.MassesSound := by
  unfold tareOwner
  split_ifs <;> exact h

theorem assortmentOwner_massesSound (s : State) (r : Option Nat) (h : s.MassesSound) :
    (assortmentOwner r s).state.MassesSound := by
  unfold assortmentOwner
  split
  · exact h
  · split <;> exact h

/-- A change of the trip record that leaves every mass one that was listed. -/
theorem State.MassesSound.setLt (h : s.MassesSound) {t : Trip}
    (ht : ∀ r ∈ t.lifts, ∃ x ∈ s.lt.lifts, r.mass = x.mass) : (s.setLt t).MassesSound := by
  obtain ⟨hwindow, hheld, hlifts⟩ := h
  refine ⟨hwindow, hheld, fun r hr => ?_⟩
  obtain ⟨x, hx, hmass⟩ := ht r hr
  exact hmass ▸ hlifts x hx

theorem undoLastOwner_massesSound (s : State) (u : Unit) (h : s.MassesSound) :
    (undoLastOwner u s).state.MassesSound := by
  unfold undoLastOwner
  split
  · exact h
  · rename_i r _
    split
    · exact h
    · have hundone : (s.setLt (s.lt.undo r)).MassesSound :=
        h.setLt fun x hx => ⟨x, List.mem_of_mem_dropLast hx, rfl⟩
      exact hundone.congr (payloadTest_weigh _ _) (payloadTest_lt _ _)

theorem mem_of_findLift {lifts : List LiftRecord} {number : Nat} {x : LiftRecord}
    (h : findLift lifts number = some x) : x ∈ lifts := List.mem_of_find?_eq_some h

/-- A replaced record stands in the list beside the records that were there (R90, R91). -/
theorem mem_replaceLift {lifts : List LiftRecord} {r x : LiftRecord} (h : x ∈ replaceLift lifts r) :
    x = r ∨ x ∈ lifts := by
  obtain ⟨y, hy, hxy⟩ := List.mem_map.1 h
  split at hxy
  · exact .inl hxy.symm
  · exact .inr (hxy ▸ hy)

/-- A listed record replaced by one of the same mass leaves every mass one that was listed. -/
theorem replaceLift_masses {lifts : List LiftRecord} {x x' : LiftRecord} (hx : x ∈ lifts) (hmass : x'.mass = x.mass) :
    ∀ r ∈ replaceLift lifts x', ∃ y ∈ lifts, r.mass = y.mass := by
  intro r hr
  rcases mem_replaceLift hr with rfl | hr
  · exact ⟨x, hx, hmass⟩
  · exact ⟨r, hr, rfl⟩

theorem correctOwner_massesSound (s : State) (r : CorrectRequest) (h : s.MassesSound) :
    (correctOwner r s).state.MassesSound := by
  unfold correctOwner
  split
  · exact h
  · split
    · exact h
    · rename_i x hx
      dsimp only
      split
      · exact h
      · split
        · exact h
        · have hcorrected : (s.setLt (s.lt.corrected x { x with correction := some r.correction })).MassesSound :=
            h.setLt (replaceLift_masses (mem_of_findLift hx) rfl)
          exact hcorrected.congr (payloadTest_weigh _ _) (payloadTest_lt _ _)

theorem reassignOwner_massesSound (s : State) (r : ReassignRequest) (h : s.MassesSound) :
    (reassignOwner r s).state.MassesSound := by
  unfold reassignOwner
  split
  · split
    · exact h
    · rename_i x hx
      split
      · exact h
      · split
        · exact h
        · exact h.setLt (replaceLift_masses (mem_of_findLift hx) rfl)
  · exact h

/-- A manual lift carries no mass or one within 0..4 095 kg (R88). -/
theorem manualLiftOwner_massesSound (s : State) (r : ManualRequest) (h : s.MassesSound) :
    (manualLiftOwner r s).state.MassesSound := by
  unfold manualLiftOwner
  split
  · rename_i a _ hrange
    have hmass : massOk r.mass := by
      cases hm : r.mass with
      | none => rfl
      | some m => simpa [massOk] using ((optRange_iff _ _ _).1 hrange m hm).2
    have hfiled := fileLift_massesSound r.direction a manualFlags hmass h
    split
    · rename_i s1 ans e
      rwa [e] at hfiled
    · exact h
  · exact h

theorem tripCloseOwner_massesSound (s : State) (u : Unit) (h : s.MassesSound) :
    (tripCloseOwner u s).state.MassesSound := by
  obtain ⟨hwindow, hheld, -⟩ := h
  exact ⟨hwindow, hheld, nofun⟩

theorem payloadLimitOwner_massesSound (s : State) (r : Option Nat) (h : s.MassesSound) :
    (payloadLimitOwner r s).state.MassesSound := by
  refine h.congr (payloadLimitOwner_weigh s r) ?_
  unfold payloadLimitOwner
  split <;> simp

/-- A restart empties the window and drops the pending lift; it keeps the list or empties it (R74, R99). -/
theorem restartTaken_massesSound (h : s.MassesSound) : (restartTaken s).MassesSound := by
  have hset (asked : Option RestartKind) (s : State) (h : s.MassesSound) : (restarted asked s).MassesSound := by
    unfold restarted
    refine State.MassesSound.congr (s := restartBlocks _ _ s) ⟨nofun, nofun, ?_⟩ (latchIf_weigh _ _ _)
      (latchIf_lt _ _ _)
    cases restartKindOf asked s.ssr.retainedGood with
    | warm => exact h.2.2
    | cold => exact nofun
  unfold restartTaken
  split
  · split
    · split
      · exact hset _ _ h
      · exact h
    · exact h
  · exact hset _ _ h

end Requests

/-! #### Every command -/

section Commands

variable {dt : Nat} {s t : State}

theorem onSupply_massesSound {act : State → State} (hact : ∀ s, s.MassesSound → (act s).MassesSound)
    (h : s.MassesSound) (e : onSupply dt s act = .next t) : t.MassesSound :=
  onSupply_keeps (P := State.MassesSound) (fun _ _ h => h) hact h e

theorem execRequest_massesSound {α : Type} {kind : Byte} {reader : Reader α} {owner : α → State → Answer}
    (howner : ∀ s x, s.MassesSound → (owner x s).state.MassesSound) (h : s.MassesSound)
    (e : execRequest dt kind reader owner s = .next t) : t.MassesSound :=
  execRequest_keeps (P := State.MassesSound) (fun _ _ h => h) (fun _ _ h => h) howner h e

/-- An event that leaves the engine and the trip record alone keeps the masses. -/
theorem onSupply_massesSound_of_frame {act : State → State} (hweigh : ∀ s, (act s).weigh = s.weigh)
    (hlt : ∀ s, (act s).lt = s.lt) (h : s.MassesSound) (e : onSupply dt s act = .next t) : t.MassesSound :=
  onSupply_massesSound (fun s hs => hs.congr (hweigh s) (hlt s)) h e

/-- A request whose owner leaves the engine and the trip record alone keeps the masses. -/
theorem execRequest_massesSound_of_frame {α : Type} {kind : Byte} {reader : Reader α} {owner : α → State → Answer}
    (hweigh : ∀ s x, (owner x s).state.weigh = s.weigh) (hlt : ∀ s x, (owner x s).state.lt = s.lt)
    (h : s.MassesSound) (e : execRequest dt kind reader owner s = .next t) : t.MassesSound :=
  execRequest_massesSound (fun s x hs => hs.congr (hweigh s x) (hlt s x)) h e

theorem exec_massesSound {c : Instr} (h : s.MassesSound) (e : exec c s = .next t) : t.MassesSound := by
  cases c with
  | detectLineChange dt level =>
    rw [← Host.Outcome.next.inj e]
    split
    · unfold lineChanged
      split <;> exact h
    · exact h
  | debounceExpiry => exact onSupply_massesSound (fun _ => debounceExpired_massesSound) h e
  | powerOffTimeExpiry => exact onSupply_massesSound (fun _ => powerOffTimeExpired_massesSound) h e
  | linkSettleExpiry => exact onSupply_massesSound (fun _ => linkSettleExpired_massesSound) h e
  | identityReadEnd => exact onSupply_massesSound (fun _ => identityReadEnded_massesSound _) h e
  | identityRetry => exact onSupply_massesSound (fun _ => identityRetried_massesSound) h e
  | poll => exact onSupply_massesSound (fun _ => pollMade_massesSound) h e
  | pollCompletion => exact onSupply_massesSound (fun _ => pollEnded_massesSound _) h e
  | recoveryLineRead => exact onSupply_massesSound (fun _ => linesRead_massesSound _ _) h e
  | clockPulseEnd => exact onSupply_massesSound (fun _ => pulseEnded_massesSound _) h e
  | demandExpiry => exact onSupply_massesSound (fun _ => demandExpired_massesSound _) h e
  | suspendTimerExpiry => exact onSupply_massesSound (fun _ => suspendExpired_massesSound) h e
  | restart dt => exact Host.Outcome.next.inj e ▸ restartTaken_massesSound (s := s.tick dt) h
  | drive => exact execRequest_massesSound driveOwner_massesSound h e
  | arm => exact execRequest_massesSound armOwner_massesSound h e
  | disarm => exact execRequest_massesSound disarmOwner_massesSound h e
  | linkReset => exact execRequest_massesSound linkResetOwner_massesSound h e
  | calibrate => exact execRequest_massesSound calibrateOwner_massesSound h e
  | tare => exact execRequest_massesSound tareOwner_massesSound h e
  | assortment => exact execRequest_massesSound assortmentOwner_massesSound h e
  | undoLast => exact execRequest_massesSound undoLastOwner_massesSound h e
  | correct => exact execRequest_massesSound correctOwner_massesSound h e
  | reassign => exact execRequest_massesSound reassignOwner_massesSound h e
  | manualLift => exact execRequest_massesSound manualLiftOwner_massesSound h e
  | tripClose => exact execRequest_massesSound tripCloseOwner_massesSound h e
  | payloadLimit => exact execRequest_massesSound payloadLimitOwner_massesSound h e
  | scan => exact onSupply_massesSound_of_frame (scanned_weigh · _) (scanned_lt · _) h e
  | drivePeriod => exact onSupply_massesSound_of_frame (drivePeriodTaken_weigh · _) (drivePeriodTaken_lt · _) h e
  | driverTrip => exact onSupply_massesSound_of_frame (driverTripped_weigh · _) (driverTripped_lt · _) h e
  | supplySettleExpiry => exact onSupply_massesSound_of_frame supplySettleExpired_weigh supplySettleExpired_lt h e
  | idleTimerExpiry => exact onSupply_massesSound_of_frame idleTimerExpired_weigh idleTimerExpired_lt h e
  | byteReceived => exact onSupply_massesSound_of_frame (act := byteTaken _ _) (fun _ => rfl) (fun _ => rfl) h e
  | gapExpiry => exact onSupply_massesSound_of_frame gapExpired_weigh gapExpired_lt h e
  | frameSent => exact onSupply_massesSound_of_frame frameSent_weigh frameSent_lt h e
  | unknownKind => exact onSupply_massesSound_of_frame unknownTaken_weigh unknownTaken_lt h e
  | storeWriteCompletion => exact onSupply_massesSound_of_frame (storeCompleted_weigh · _) (storeCompleted_lt · _) h e
  | mainSupplyLoss => exact Host.Outcome.next.inj e ▸ h
  | standbySupplyLoss => exact Host.Outcome.next.inj e ▸ h
  | standbySupplyReturn => exact Host.Outcome.next.inj e ▸ h
  | status => exact execRequest_massesSound_of_frame statusOwner_weigh statusOwner_lt h e
  | readChanges => exact execRequest_massesSound_of_frame readChangesOwner_weigh readChangesOwner_lt h e
  | clearChanges => exact execRequest_massesSound (owner := clearChangesOwner) (fun _ _ h => h) h e
  | changeConfig => exact execRequest_massesSound (owner := changeConfigOwner) (fun _ _ h => h) h e
  | sectionConfig => exact execRequest_massesSound_of_frame sectionConfigOwner_weigh sectionConfigOwner_lt h e
  | profileWrite => exact execRequest_massesSound_of_frame profileOwner_weigh profileOwner_lt h e
  | release => exact execRequest_massesSound_of_frame releaseOwner_weigh releaseOwner_lt h e
  | faultClear => exact execRequest_massesSound_of_frame faultClearOwner_weigh faultClearOwner_lt h e
  | captureConfig => exact execRequest_massesSound_of_frame captureOwner_weigh captureOwner_lt h e
  | readLifts => exact execRequest_massesSound_of_frame readLiftsOwner_weigh readLiftsOwner_lt h e
  | readTotals => exact execRequest_massesSound_of_frame readTotalsOwner_weigh readTotalsOwner_lt h e
  | zoneWrite => exact execRequest_massesSound_of_frame zoneWriteOwner_weigh zoneWriteOwner_lt h e
  | zoneEnable => exact execRequest_massesSound_of_frame zoneEnableOwner_weigh zoneEnableOwner_lt h e
  | zoneRead => exact execRequest_massesSound_of_frame zoneReadOwner_weigh zoneReadOwner_lt h e
  | limiterConfig => exact execRequest_massesSound_of_frame limiterOwner_weigh limiterOwner_lt h e
  | ratedWrite => exact execRequest_massesSound_of_frame ratedOwner_weigh ratedOwner_lt h e
  | linkStatus => exact execRequest_massesSound (owner := linkStatusOwner) (fun _ _ h => h) h e
  | channelCalibration => exact execRequest_massesSound_of_frame channelOwner_weigh channelOwner_lt h e
  | geometryConfig => exact execRequest_massesSound_of_frame geometryOwner_weigh geometryOwner_lt h e
  | storeSettings => exact execRequest_massesSound_of_frame storeOwner_weigh storeOwner_lt h e
  | restartRequest => exact execRequest_massesSound (owner := restartOwner) (fun _ _ h => h) h e

end Commands

/-- Settles O10: only accepted forces join the window, a capture's end weighs a window of such forces or nothing, a
filing hands over the pending lift's mass or a manual one in its range, and no other command adds a mass. -/
theorem stepKeepsMasses : Obligations.StepKeepsMasses := fun _ _ h hstep =>
  step_keeps (P := State.MassesSound) (fun _ _ h => h) (fun _ _ _ => exec_massesSound) h hstep

end Sys2Proof.Machine
end

section
/-! ### The end of a capture, and the samples it takes -/

namespace Sys2Proof.Machine

open Sys2Proof

/-! #### The spread of a window -/

/-- A number is the spread of a window: a difference of two of its forces, and no difference is greater (R59). -/
abbrev IsSpread (w : List WindowEntry) (n : Nat) : Prop :=
  (∃ x ∈ w, ∃ y ∈ w, (n : Int) = x.force - y.force) ∧ ∀ x ∈ w, ∀ y ∈ w, x.force - y.force ≤ n

theorem windowSpread_eq_none_iff {w : List WindowEntry} : windowSpread w = none ↔ w = [] := by
  cases w <;> simp [windowSpread]

theorem windowSpread_isSpread {w : List WindowEntry} {n : Nat} (h : windowSpread w = some n) : IsSpread w n := by
  cases w with
  | nil => cases h
  | cons e es =>
    obtain ⟨hmax, hle⟩ := List.max?_eq_some_iff.1 (List.max?_cons' (x := e.force) (xs := es.map WindowEntry.force))
    obtain ⟨hmin, hge⟩ := List.min?_eq_some_iff.1 (List.min?_cons' (x := e.force) (xs := es.map WindowEntry.force))
    obtain rfl := Option.some.inj h
    rw [← List.map_cons] at hmax hmin hle hge
    obtain ⟨x, hx, hxf⟩ := List.mem_map.1 hmax
    obtain ⟨y, hy, hyf⟩ := List.mem_map.1 hmin
    have hbound {a b : WindowEntry} (ha : a ∈ e :: es) (hb : b ∈ e :: es) : a.force - b.force ≤ x.force - y.force := by
      have := hle _ (List.mem_map_of_mem ha)
      have := hge _ (List.mem_map_of_mem hb)
      omega
    rw [← hxf, ← hyf]
    have hpos := hbound hy hx
    refine ⟨⟨x, hx, y, hy, ?_⟩, fun a ha b hb => ?_⟩
    · omega
    · have := hbound ha hb
      omega

theorem exists_windowSpread {w : List WindowEntry} (h : w ≠ []) : ∃ n, windowSpread w = some n :=
  Option.ne_none_iff_exists'.1 (mt windowSpread_eq_none_iff.1 h)

/-- The spread in a pending lift is that of the window as it stood (R65). -/
theorem pendingLift_spread (outcome : CaptureOutcome) (below : Bool) (e : Wce) :
    ((pendingLift outcome below e).spread = none ↔ e.window = []) ∧
      ∀ n, (pendingLift outcome below e).spread = some n → IsSpread e.window n :=
  ⟨windowSpread_eq_none_iff, fun _ => windowSpread_isSpread⟩

/-! #### The window judged at the end of the budget -/

section Samples

variable {s : State} {x : Sample}

theorem engineSample_of_rejected (hstate : s.wce.state = .collecting)
    (h : acceptedForce s.settings.capture.swingLimit x = none) :
    engineSample x s =
      if s.settings.capture.rejectLimit ≤ s.wce.rejects + 1 then
        endUnweighed .unsteady (s.setWce { s.wce with rejects := s.wce.rejects + 1 })
      else s.setWce { s.wce with rejects := s.wce.rejects + 1 } := by
  simp only [engineSample, if_pos hstate, h]
  rfl

/-- The engine with a sample's force in the window and counted (R57). -/
def Wce.took (e : Wce) (poll : Nat) (force : Int) : Wce :=
  { e with
    window := ringPush 32 e.window { poll := poll, force := force }
    remaining := e.remaining - 1
    accepted := e.accepted + 1 }

theorem engineSample_of_accepted {f : Int} (hstate : s.wce.state = .collecting)
    (h : acceptedForce s.settings.capture.swingLimit x = some f) :
    engineSample x s =
      if s.wce.remaining - 1 = 0 then evaluateWindow (s.setWce (s.wce.took x.poll f))
      else s.setWce (s.wce.took x.poll f) := by
  simp only [engineSample, if_pos hstate, h]
  rfl

theorem evaluateWindow_of_steady {n : Nat} (hn : windowSpread s.wce.window = some n)
    (h : n ≤ s.settings.capture.spreadLimit) : evaluateWindow s = endWeighed s := by
  simp [evaluateWindow, hn, h]

theorem evaluateWindow_of_extended {n : Nat} (hn : windowSpread s.wce.window = some n)
    (h : s.settings.capture.spreadLimit < n) (hleft : 0 < s.wce.extLeft) :
    evaluateWindow s =
      s.setWce { s.wce with
        remaining := s.settings.capture.extensionSize
        extLeft := s.wce.extLeft - 1
        extUsed := s.wce.extUsed + 1
        extended := true } := by
  rw [evaluateWindow, hn, Option.getD_some, if_neg (not_le.2 h), if_pos hleft]

theorem evaluateWindow_of_unsteady {n : Nat} (hn : windowSpread s.wce.window = some n)
    (h : s.settings.capture.spreadLimit < n) (hleft : s.wce.extLeft = 0) :
    evaluateWindow s = endUnweighed .unsteady s := by
  rw [evaluateWindow, hn, Option.getD_some, if_neg (not_le.2 h), if_neg (by omega)]

end Samples

/-- The mean of a window of forces from 0 upward, on integers (R62). -/
theorem weighMass_mean {w : List WindowEntry} (h : ∀ a ∈ w, 0 ≤ a.force) (tare : Nat) :
    ((weighMass w tare).mean : Int) = (2 * (w.map WindowEntry.force).sum + w.length) / (2 * w.length) := by
  have hsum : 0 ≤ (w.map WindowEntry.force).sum := by
    refine List.sum_nonneg fun f hf => ?_
    obtain ⟨a, ha, rfl⟩ := List.mem_map.1 hf
    exact h a ha
  simp only [weighMass, meanForce, windowSum]
  push_cast
  rw [Int.toNat_of_nonneg hsum]

/-- Settles O59: the end of a capture is `endCapture` itself, and a sample is rejected, or joins the window and at the
end of the budget has it judged by its spread. -/
theorem captureTakesSample : Obligations.CaptureTakesSample := by
  refine ⟨fun s outcome below => ?_, fun s x => ⟨fun hstate => if_neg hstate, fun hstate => ⟨fun hbad => ?_, ?_⟩⟩⟩
  · obtain ⟨hnone, hsome⟩ := pendingLift_spread outcome below s.wce
    exact ⟨pendingLift outcome below s.wce, rfl, rfl, rfl, hnone, hsome, rfl, rfl, rfl, rfl, rfl, rfl⟩
  · have hrejected : acceptedForce s.settings.capture.swingLimit x = none := by
      rw [Option.eq_none_iff_forall_ne_some]
      intro f hf
      obtain ⟨d, hd, hok, -⟩ := acceptedForce_eq_some_iff.1 hf
      exact hbad d hd hok
    exact ⟨_, rfl, engineSample_of_rejected hstate hrejected⟩
  · intro d hd hstatus hswing hlo hhi hclamped hlen
    have haccepted := engineSample_of_accepted hstate
      (acceptedForce_eq_some_iff.2 ⟨d, hd, ⟨hstatus, hswing, hlo, hhi, hclamped⟩, rfl⟩)
    have hwindow : (s.wce.took x.poll d.force).window =
        (if s.wce.window.length < 32 then s.wce.window else s.wce.window.tail) ++
          [{ poll := x.poll, force := d.force }] := ringPush_eq 32 _ _ (by omega) hlen
    obtain ⟨n, hn⟩ := exists_windowSpread (w := (s.wce.took x.poll d.force).window) (by simp [hwindow])
    obtain ⟨hspread, hbound⟩ := windowSpread_isSpread hn
    refine ⟨s.setWce (s.wce.took x.poll d.force), _, n, hwindow, rfl, hspread, hbound, fun hmore => ?_,
      fun hlast => ?_⟩
    · rw [haccepted, if_neg (by omega)]
    · rw [haccepted, if_pos (by omega)]
      refine ⟨fun hwide hleft => evaluateWindow_of_unsteady hn hwide hleft,
        fun hwide hleft => evaluateWindow_of_extended hn hwide hleft, fun hsteady hforces => ?_⟩
      refine ⟨weighMass (s.wce.took x.poll d.force).window s.settings.calRecord.tare, weighMass_mean hforces _, rfl,
        rfl, ?_, evaluateWindow_of_steady hn hsteady⟩
      simp only [weighMass]
      omega

/-! #### The suspend timer -/

theorem suspendExpired_of_due {s : State} {due : Nat} (hstate : s.wce.state = .suspended)
    (hdue : s.wce.suspendDue = some due) (h : due ≤ s.now) : suspendExpired s = endUnweighed .stalled s := by
  simp [suspendExpired, hstate, hdue, h]

theorem suspendExpired_of_early {s : State}
    (h : s.wce.state ≠ .suspended ∨ ∀ due, s.wce.suspendDue = some due → s.now < due) : suspendExpired s = s := by
  refine if_neg fun hboth => ?_
  obtain ⟨hstate, hdue⟩ : s.wce.state = .suspended ∧ ∃ due, s.wce.suspendDue = some due ∧ due ≤ s.now := by
    simpa [isDue, Option.any_eq_true] using hboth
  obtain ⟨due, hsome, hle⟩ := hdue
  exact (h.resolve_left (not_not.2 hstate) due hsome).not_ge hle

/-- Settles O32: the capture ends as any other, unweighed as Stalled. -/
theorem suspendExpiryStallsCapture : Obligations.SuspendExpiryStallsCapture := by
  intro s dt hmain
  have hexec : exec (.suspendTimerExpiry dt) s = .next (suspendExpired (s.tick dt)) := onSupply_main dt s _ hmain
  refine ⟨fun due hstate hdue hle => ?_, fun hother => ?_⟩
  · obtain ⟨hnone, hsome⟩ := pendingLift_spread (.unweighed .stalled) false s.wce
    refine ⟨pendingLift (.unweighed .stalled) false s.wce, rfl, rfl, rfl, hnone, hsome, rfl, rfl, rfl, rfl, rfl, ?_⟩
    rw [hexec, suspendExpired_of_due (s := s.tick dt) hstate hdue hle]
    rfl
  · rw [hexec, suspendExpired_of_early (s := s.tick dt) hother]
    rfl

end Sys2Proof.Machine
end

section
/-! ### The lift conditions of a demand event -/

namespace Sys2Proof.Machine

open Sys2Proof

section Lift

variable {s : State}

theorem liftTrigger_iff (s : State) : s.liftTrigger = true ↔
    (s.settings.capture.liftThreshold : Int) ≤ s.dsh[(1 : Fin 6)].held ∨
      (s.settings.capture.liftThreshold : Int) ≤ s.dsh[(2 : Fin 6)].held := by
  simp only [State.liftTrigger, Bool.or_eq_true, decide_eq_true_eq]
  exact Iff.rfl

theorem triggerArmed_of_not (h : ¬(s.wce.state = .armed ∧ s.liftTrigger = true)) : triggerArmed s = s :=
  if_neg (by simpa using h)

theorem triggerArmed_of_trigger (hstate : s.wce.state = .armed) (htrigger : s.liftTrigger = true) :
    triggerArmed s =
      if s.wlc.state = .running && s.calValid then startCapture (s.setWce { s.wce with validityRead := s.calValid })
      else s.setWce { s.wce with validityRead := s.calValid } :=
  if_pos (by simp [hstate, htrigger])

theorem liftConditions_of_armed (h : s.wce.state = .armed) : liftConditions s = triggerArmed s := by
  simp only [liftConditions, h]

theorem liftConditions_of_collecting (h : s.wce.state = .collecting) :
    liftConditions s =
      if s.liftTrigger then s
      else s.setWce
        { s.wce with state := .suspended, suspendDue := some (s.now + s.settings.capture.suspendTime) } := by
  simp only [liftConditions, h]

theorem liftConditions_of_suspended (h : s.wce.state = .suspended) :
    liftConditions s =
      if s.liftTrigger then s.setWce { s.wce with state := .collecting, suspendDue := none } else s := by
  simp only [liftConditions, h]

theorem liftConditions_of_quiet (h : s.wce.state = .idle ∨ s.wce.state = .gripped ∨ s.wce.state = .held) :
    liftConditions s = s := by
  rcases h with h | h | h <;> simp only [liftConditions, h]

end Lift

/-- Settles O31, an engine state at a time. -/
theorem liftConditionsRunCapture : Obligations.LiftConditionsRunCapture := by
  intro s trigger htrigger
  rw [← liftTrigger_iff] at htrigger
  refine ⟨fun hstate ht hrun hvalid => ?_, fun hstate ht hnot => ?_, fun hstate ht => ?_, fun hstate ht => ?_,
    fun hsame => ?_⟩
  · rw [liftConditions_of_armed hstate, triggerArmed_of_trigger hstate (htrigger.1 ht),
      if_pos (by simp [hrun, hvalid]), hvalid]
    rfl
  · rw [liftConditions_of_armed hstate, triggerArmed_of_trigger hstate (htrigger.1 ht), if_neg]
    · rfl
    · rcases hnot with h | h <;> simp [h]
  · rw [liftConditions_of_collecting hstate, if_neg (mt htrigger.2 ht)]
    rfl
  · rw [liftConditions_of_suspended hstate, if_pos (htrigger.1 ht)]
    rfl
  · rcases hsame with ⟨hstate, ht⟩ | ⟨hstate, ht⟩ | ⟨hstate, ht⟩ | hquiet
    · rw [liftConditions_of_armed hstate, triggerArmed_of_not fun h => ht (htrigger.2 h.2)]
    · rw [liftConditions_of_collecting hstate, if_pos (htrigger.1 ht)]
    · rw [liftConditions_of_suspended hstate, if_neg (mt htrigger.2 ht)]
    · exact liftConditions_of_quiet hquiet

end Sys2Proof.Machine
end

section
/-! ### The requests of the engine -/

namespace Sys2Proof.Machine

open Sys2Proof

/-! #### The engine snapshot -/

theorem snapshot_capture (s : State) : s.snapshot.capture =
    if s.wce.state = .collecting ∨ s.wce.state = .suspended then
      some
        { remaining := s.wce.remaining, extLeft := s.wce.extLeft, rejects := s.wce.rejects, accepted := s.wce.accepted
          windowCount := s.wce.window.length, extended := s.wce.extended }
    else none := by
  simp only [← Wce.capturing_iff]
  rfl

/-! #### The reply of a request that moves the engine -/

/-- A reply that is filled in stands in the place its request took. -/
theorem takenState_putOut (dt : Nat) (kind tag : Byte) (fields : List Byte) (rest : List InFrame) (s : State)
    (code : ResultCode) (body : ReplyBody) :
    (takenState dt { kind := kind, tag := tag, fields := fields } rest s).putOut s.clp.outbound.length
        (.reply kind tag code body) =
      s.replied dt rest kind tag code body := by
  simp [State.putOut, takenState, takeFrame, State.replied, Clp.answered, State.setClp]

/-- An answer that moves the engine and nothing else: time, engine and port change, and the reply shows the engine
moved. -/
theorem putReply_snapshot (dt : Nat) (kind tag : Byte) (fields : List Byte) (rest : List InFrame) (s : State)
    (e : Wce) (code : ResultCode) :
    putReply s.clp.outbound.length { kind := kind, tag := tag, fields := fields }
        (withSnapshot code ((takenState dt { kind := kind, tag := tag, fields := fields } rest s).setWce e)) =
      ((s.tick dt).setWce e).setClp
        (s.clp.answered rest kind tag code (.snapshot ((s.tick dt).setWce e).snapshot)) :=
  congrArg (State.setWce · e) (takenState_putOut dt kind tag fields rest s code _)

/-- A capture's end raises its report behind the reply (R52, R183). -/
theorem putReply_endCapture (dt : Nat) (kind tag : Byte) (fields : List Byte) (rest : List InFrame) (s : State)
    (outcome : CaptureOutcome) (below : Bool) (code : ResultCode) (body : ReplyBody) :
    putReply s.clp.outbound.length { kind := kind, tag := tag, fields := fields }
        { state := endCapture outcome below (takenState dt { kind := kind, tag := tag, fields := fields } rest s)
          result := code
          body := body } =
      endCapture outcome below (s.replied dt rest kind tag code body) := by
  have hplace : s.clp.outbound.length <
      (takenState dt { kind := kind, tag := tag, fields := fields } rest s).clp.outbound.length := by
    simp [takenState, takeFrame]
  rw [← takenState_putOut dt kind tag fields rest s code body, endCapture_putOut _ hplace]
  rfl

/-! #### Arm and Disarm, by the engine state -/

section Owners

variable {s : State} (u : Unit)

theorem armOwner_of_idle (h : s.wce.state = .idle) :
    armOwner u s = withSnapshot .done (s.setWce { s.wce with preArm := true }) := by
  simp only [armOwner, h]

theorem armOwner_of_armed (h : s.wce.state = .armed) : armOwner u s = withSnapshot .done s := by
  simp only [armOwner, h]

theorem armOwner_of_busy (h : s.wce.state = .collecting ∨ s.wce.state = .suspended ∨ s.wce.state = .held) :
    armOwner u s = withSnapshot .busy s := by
  rcases h with h | h | h <;> simp only [armOwner, h]

theorem armOwner_of_uncalibrated (h : s.wce.state = .gripped) (hvalid : s.calValid = false) :
    armOwner u s = withSnapshot .noCal (s.setWce { s.wce with validityRead := false }) := by
  simp [armOwner, h, armGripped, hvalid]

/-- The engine armed with a valid record, before the lift trigger is tested (R51). -/
def Wce.arm (e : Wce) : Wce := { e with state := .armed, validityRead := true }

theorem armOwner_of_calibrated (h : s.wce.state = .gripped) (hvalid : s.calValid = true) :
    armOwner u s = withSnapshot .done (triggerArmed (s.setWce s.wce.arm)) := by
  simp [armOwner, h, armGripped, hvalid, Wce.arm, State.setWce]

theorem disarmOwner_of_idle (h : s.wce.state = .idle) :
    disarmOwner u s = withSnapshot .done (s.setWce { s.wce with preArm := false }) := by
  simp only [disarmOwner, h]

theorem disarmOwner_of_armed (h : s.wce.state = .armed) :
    disarmOwner u s = withSnapshot .done (s.setWce { s.wce with state := .gripped }) := by
  simp only [disarmOwner, h]

theorem disarmOwner_of_capturing (h : s.wce.state = .collecting ∨ s.wce.state = .suspended) :
    disarmOwner u s = withSnapshot .done (endUnweighed .disarmed s) := by
  rcases h with h | h <;> simp only [disarmOwner, h]

theorem disarmOwner_of_quiet (h : s.wce.state = .gripped ∨ s.wce.state = .held) :
    disarmOwner u s = withSnapshot .done s := by
  rcases h with h | h <;> simp only [disarmOwner, h]

end Owners

/-- The lift-trigger test moves the engine alone. -/
theorem triggerArmed_frame (s : State) : triggerArmed s = s.setWce (triggerArmed s).wce := by
  unfold triggerArmed
  split
  · dsimp only
    split <;> rfl
  · rfl

/-- The lift-trigger test does not look at the port. -/
theorem triggerArmed_setClp (s : State) (c : Clp) : triggerArmed (s.setClp c) = (triggerArmed s).setClp c := by
  unfold triggerArmed
  rw [apply_ite (State.setClp · c)]
  dsimp only
  rw [apply_ite (State.setClp · c)]
  rfl

/-! #### The two requests, next to be taken -/

section Asked

variable {s : State} {tag : Byte} {rest : List InFrame} (dt : Nat)

theorem exec_arm_asked (h : s.asked 0x20#8 tag [] rest) :
    exec (.arm dt) s =
      .next
        (putReply s.clp.outbound.length { kind := 0x20#8, tag := tag, fields := [] }
          (armOwner () (takenState dt { kind := 0x20#8, tag := tag, fields := [] } rest s))) :=
  asked_decoded armOwner h rfl

theorem exec_disarm_asked (h : s.asked 0x21#8 tag [] rest) :
    exec (.disarm dt) s =
      .next
        (putReply s.clp.outbound.length { kind := 0x21#8, tag := tag, fields := [] }
          (disarmOwner () (takenState dt { kind := 0x21#8, tag := tag, fields := [] } rest s))) :=
  asked_decoded disarmOwner h rfl

/-- Arm in GRIPPED with a valid record arms the grip and tests the lift trigger (R51). -/
theorem exec_arm_calibrated (h : s.asked 0x20#8 tag [] rest) (hstate : s.wce.state = .gripped)
    (hvalid : s.calValid = true) :
    exec (.arm dt) s =
      .next
        (((s.tick dt).setWce (liftConditions ((s.tick dt).setWce s.wce.arm)).wce).setClp
          (s.clp.answered rest 0x20#8 tag .done
            (.snapshot ((s.tick dt).setWce (liftConditions ((s.tick dt).setWce s.wce.arm)).wce).snapshot))) := by
  have htaken : triggerArmed ((takenState dt { kind := 0x20#8, tag := tag, fields := [] } rest s).setWce s.wce.arm) =
      (takenState dt { kind := 0x20#8, tag := tag, fields := [] } rest s).setWce
        (liftConditions ((s.tick dt).setWce s.wce.arm)).wce := by
    rw [liftConditions_of_armed (s := (s.tick dt).setWce s.wce.arm) rfl]
    refine (triggerArmed_setClp ((s.tick dt).setWce s.wce.arm) _).trans ?_
    rw [triggerArmed_frame]
    rfl
  rw [exec_arm_asked dt h, armOwner_of_calibrated _ (by exact hstate) (by exact hvalid), takenState_wce, htaken]
  exact congrArg _ (putReply_snapshot ..)

/-- Disarm ends a capture with its report behind the reply (R52, R183). -/
theorem exec_disarm_capturing (h : s.asked 0x21#8 tag [] rest)
    (hstate : s.wce.state = .collecting ∨ s.wce.state = .suspended) :
    exec (.disarm dt) s =
      .next
        (endCapture (.unweighed .disarmed) false
          (s.replied dt rest 0x21#8 tag .done
            (.snapshot (endCapture (.unweighed .disarmed) false (s.tick dt)).snapshot))) := by
  rw [exec_disarm_asked dt h, disarmOwner_of_capturing _ (by exact hstate)]
  exact congrArg _ (putReply_endCapture dt 0x21#8 tag [] rest s _ _ .done _)

end Asked

/-- Settles O43: the snapshot field by field, then each request by the engine state. -/
theorem armAndDisarm : Obligations.ArmAndDisarm := by
  refine ⟨?_, fun s dt tag rest => ⟨?_, ?_⟩⟩
  · rintro s e rfl
    refine ⟨rfl, rfl, rfl, rfl, rfl, fun h => if_pos h, fun h => if_neg h, fun h => ?_, fun hc hs => ?_,
      fun h => if_pos h, fun h => if_neg h, fun h => if_pos h, fun h => if_neg h⟩
    · rw [snapshot_capture, if_pos h]
    · rw [snapshot_capture, if_neg (by simp [hc, hs])]
  · rintro h u rfl
    refine ⟨fun hstate => ?_, fun hstate hvalid => ⟨_, rfl, exec_arm_calibrated dt h hstate hvalid⟩,
      fun hstate hvalid => ?_, fun hstate => ?_, fun hstate => ?_⟩ <;> rw [exec_arm_asked dt h]
    · rw [armOwner_of_idle _ (by exact hstate)]
      exact congrArg _ (putReply_snapshot ..)
    · rw [armOwner_of_uncalibrated _ (by exact hstate) (by exact hvalid)]
      exact congrArg _ (putReply_snapshot ..)
    · rw [armOwner_of_armed _ (by exact hstate)]
      exact congrArg _ (putReply_same ..)
    · rw [armOwner_of_busy _ (by exact hstate)]
      exact congrArg _ (putReply_same ..)
  · rintro h u rfl
    refine ⟨fun hstate => ?_, fun hstate => ?_, fun hstate => ?_, fun hstate => ?_⟩
    · rw [exec_disarm_asked dt h, disarmOwner_of_idle _ (by exact hstate)]
      exact congrArg _ (putReply_snapshot ..)
    · rw [exec_disarm_asked dt h, disarmOwner_of_armed _ (by exact hstate)]
      exact congrArg _ (putReply_snapshot ..)
    · obtain ⟨hnone, hsome⟩ := pendingLift_spread (.unweighed .disarmed) false s.wce
      exact ⟨pendingLift (.unweighed .disarmed) false s.wce, _, rfl, rfl, rfl, rfl, rfl, rfl, rfl, rfl, hnone, hsome,
        rfl, exec_disarm_capturing dt h hstate⟩
    · rw [exec_disarm_asked dt h, disarmOwner_of_quiet _ (by exact hstate)]
      exact congrArg _ (putReply_same ..)

end Sys2Proof.Machine
end

section
/-! ### Capture config -/

namespace Sys2Proof.Machine

open Sys2Proof

/-! #### A presence mask and its optional fields -/

/-- A reader in two parts takes its bytes in two parts. -/
theorem reader_bind_eq_some {α β : Type} {x : Reader α} {f : α → Reader β} {bytes rest : List Byte} {b : β}
    (h : (x >>= f) bytes = some (b, rest)) : ∃ a mid, x bytes = some (a, mid) ∧ f a mid = some (b, rest) := by
  obtain ⟨⟨a, mid⟩, hx, hf⟩ := Option.bind_eq_some_iff.1 h
  exact ⟨a, mid, hx, hf⟩

/-- An absent field has its mask bit clear and takes no byte (R181). -/
theorem readOpt_eq_none {α : Type} {mask k : Nat} {field : Reader α} {bytes rest : List Byte}
    (h : readOpt mask k field bytes = some (none, rest)) : mask.testBit k = false ∧ bytes = rest := by
  unfold readOpt at h
  split at h
  · obtain ⟨x, -, hsome⟩ := Option.bind_eq_some_iff.1 h
    cases hsome
  · rename_i hbit
    cases h
    exact ⟨Bool.eq_false_iff.2 hbit, rfl⟩

/-- A mask of two bytes has no bit beyond its optional fields, and is 0 only as two zero bytes (R181). -/
theorem readMask_eq_some {n m : Nat} (hn : 8 < n) {bytes rest : List Byte} (h : readMask n bytes = some (m, rest)) :
    m < 2 ^ n ∧ (m = 0 → bytes = 0x00#8 :: 0x00#8 :: rest) := by
  rw [readMask, if_neg (not_le.2 hn)] at h
  obtain ⟨x, mid, hread, hbound⟩ := reader_bind_eq_some h
  unfold readU16 at hread
  split at hread
  · rename_i a b tail
    cases hread
    dsimp only at hbound
    split at hbound
    · rename_i hlt
      cases hbound
      refine ⟨hlt, fun hzero => ?_⟩
      obtain rfl : a = 0x00#8 := BitVec.eq_of_toNat_eq (by simp [natOfBytes] at hzero; simp [hzero])
      obtain rfl : b = 0x00#8 := BitVec.eq_of_toNat_eq (by simp [natOfBytes] at hzero; simp [hzero])
      rfl
    · cases hbound
  · cases hread

/-- A mask with every bit clear is 0. -/
theorem eq_zero_of_testBit {m n : Nat} (hm : m < 2 ^ n) (h : ∀ k < n, m.testBit k = false) : m = 0 := by
  refine Nat.zero_of_testBit_eq_false fun k => ?_
  rcases lt_or_ge k n with hk | hk
  · exact h k hk
  · exact Nat.testBit_eq_false_of_lt (hm.trans_le (Nat.pow_le_pow_right (by omega) hk))

/-- A Capture config that decodes carries no field exactly when its payload is an empty mask (R71, R181). -/
theorem captureEmpty_iff {fields : List Byte} {r : CaptureRequest} (h : decodeAll readCapture fields = some r) :
    captureEmpty r = true ↔ fields = [0x00#8, 0x00#8] := by
  constructor
  · intro hempty
    unfold decodeAll at h
    split at h
    · rename_i r' hread
      cases h
      obtain ⟨m, rest, hm, hread⟩ := reader_bind_eq_some hread
      obtain ⟨x0, rest0, h0, hread⟩ := reader_bind_eq_some hread
      obtain ⟨x1, rest1, h1, hread⟩ := reader_bind_eq_some hread
      obtain ⟨x2, rest2, h2, hread⟩ := reader_bind_eq_some hread
      obtain ⟨x3, rest3, h3, hread⟩ := reader_bind_eq_some hread
      obtain ⟨x4, rest4, h4, hread⟩ := reader_bind_eq_some hread
      obtain ⟨x5, rest5, h5, hread⟩ := reader_bind_eq_some hread
      obtain ⟨x6, rest6, h6, hread⟩ := reader_bind_eq_some hread
      obtain ⟨x7, rest7, h7, hread⟩ := reader_bind_eq_some hread
      obtain ⟨x8, rest8, h8, hread⟩ := reader_bind_eq_some hread
      obtain ⟨x9, rest9, h9, hread⟩ := reader_bind_eq_some hread
      obtain ⟨x10, rest10, h10, hread⟩ := reader_bind_eq_some hread
      cases hread
      simp only [captureEmpty, Bool.and_eq_true, Option.isNone_iff_eq_none] at hempty
      obtain ⟨⟨⟨⟨⟨⟨⟨⟨⟨⟨rfl, rfl⟩, rfl⟩, rfl⟩, rfl⟩, rfl⟩, rfl⟩, rfl⟩, rfl⟩, rfl⟩, rfl⟩ := hempty
      obtain ⟨b0, rfl⟩ := readOpt_eq_none h0
      obtain ⟨b1, rfl⟩ := readOpt_eq_none h1
      obtain ⟨b2, rfl⟩ := readOpt_eq_none h2
      obtain ⟨b3, rfl⟩ := readOpt_eq_none h3
      obtain ⟨b4, rfl⟩ := readOpt_eq_none h4
      obtain ⟨b5, rfl⟩ := readOpt_eq_none h5
      obtain ⟨b6, rfl⟩ := readOpt_eq_none h6
      obtain ⟨b7, rfl⟩ := readOpt_eq_none h7
      obtain ⟨b8, rfl⟩ := readOpt_eq_none h8
      obtain ⟨b9, rfl⟩ := readOpt_eq_none h9
      obtain ⟨b10, rfl⟩ := readOpt_eq_none h10
      obtain ⟨hlt, hzero⟩ := readMask_eq_some (by omega) hm
      refine hzero (eq_zero_of_testBit hlt fun k hk => ?_)
      interval_cases k <;> assumption
    · cases h
  · rintro rfl
    have hnone : decodeAll readCapture [0x00#8, 0x00#8] =
        some ⟨none, none, none, none, none, none, none, none, none, none, none⟩ := by decide
    cases hnone.symm.trans h
    rfl

/-! #### The settings replaced -/

/-- Sound settings with the fields replaced are sound when every field lies in its range (R71). -/
theorem captureApply_sound_iff (r : CaptureRequest) {c : CaptureSettings} (h : c.Sound) :
    (captureApply r c).Sound ↔ captureInRange r = true := by
  simp only [CaptureSettings.Sound, inRange_iff] at h
  obtain ⟨hgrip, hhold, hlift, hbudget, hmax, hsize, hreject, hswing, hspread, hsuspend⟩ := h
  simp only [captureInRange, Bool.and_eq_true, optRange_iff_getD hgrip r.gripThreshold, optRange_iff_getD hhold,
    optRange_iff_getD hlift r.liftThreshold, optRange_iff_getD hbudget,
    optRange_iff_getD ⟨Nat.zero_le _, hmax⟩, optRange_iff_getD hsize, optRange_iff_getD hreject,
    optRange_iff_getD hswing, optRange_iff_getD hspread, optRange_iff_getD hsuspend,
    CaptureSettings.Sound, inRange_iff, captureApply, Nat.zero_le, true_and, and_assoc]

section Owner

variable {s : State} {r : CaptureRequest}

theorem captureOwner_of_bad (h : captureInRange r = false) : captureOwner r s = refuse .badField s := by
  simp [captureOwner, h]

theorem captureOwner_of_busy (h : captureInRange r = true) (hempty : captureEmpty r = false)
    (hbusy : s.weighing = true) : captureOwner r s = refuse .busy s := by
  simp [captureOwner, h, hempty, hbusy]

theorem captureOwner_of_free (h : captureInRange r = true) (hfree : captureEmpty r = true ∨ s.weighing = false) :
    captureOwner r s =
      answerDone (s.setSettings { s.settings with capture := captureApply r s.settings.capture })
        (.captureConfig (captureApply r s.settings.capture)
          { s.snapshot with autoArm := (captureApply r s.settings.capture).autoArm }) := by
  have hnot : (!captureEmpty r && s.weighing) = false := by rcases hfree with h | h <;> simp [h]
  simp only [captureOwner, h, hnot]
  rfl

end Owner

@[simp] theorem takenState_weighing (dt : Nat) (f : InFrame) (rest : List InFrame) (s : State) :
    (takenState dt f rest s).weighing = s.weighing := rfl

theorem exec_captureConfig_asked {s : State} {tag : Byte} {fields : List Byte} {rest : List InFrame}
    {r : CaptureRequest} (dt : Nat) (h : s.asked 0x22#8 tag fields rest) (hr : decodeAll readCapture fields = some r) :
    exec (.captureConfig dt) s =
      .next
        (putReply s.clp.outbound.length { kind := 0x22#8, tag := tag, fields := fields }
          (captureOwner r (takenState dt { kind := 0x22#8, tag := tag, fields := fields } rest s))) :=
  asked_decoded captureOwner h hr

/-- Settles O44: an out-of-range field, then a field while a capture or a tare runs, then the settings replaced. -/
theorem captureConfigWritesSettings : Obligations.CaptureConfigWritesSettings := by
  intro s dt tag fields rest r c h hr hsound hc
  obtain rfl : c = captureApply r s.settings.capture := hc
  rw [exec_captureConfig_asked dt h hr, captureApply_sound_iff r hsound]
  refine ⟨fun hbad => ?_, fun hgood busy hbusy => ?_⟩
  · rw [captureOwner_of_bad (Bool.eq_false_iff.2 hbad), putReply_refuse]
  · rw [← weighing_iff, Ne, ← captureEmpty_iff hr] at hbusy
    refine ⟨fun hb => ?_, fun hb => ?_⟩
    · obtain ⟨hfull, hweighing⟩ := hbusy.1 hb
      rw [captureOwner_of_busy hgood (Bool.eq_false_iff.2 hfull) (by simpa using hweighing), putReply_refuse]
    · have hfree : captureEmpty r = true ∨ s.weighing = false := by
        by_cases hempty : captureEmpty r = true
        · exact .inl hempty
        · exact .inr (Bool.eq_false_iff.2 fun hw => hb (hbusy.2 ⟨hempty, hw⟩))
      rw [captureOwner_of_free hgood (by simpa using hfree)]
      exact congrArg _ (putReply_settings ..)

end Sys2Proof.Machine
end

section
/-! ### What a demand event leaves, and the two commands that make one -/

namespace Sys2Proof.Machine

open Sys2Proof

/-! #### The part of the state that a demand event leaves standing -/

/-- The state beside the engine, the weigh link, the tally and the port's outbound side (R45). -/
structure Standing where
  now : Nat
  power : Power
  settings : Settings
  ssu : Ssu
  evm : EvalRecord
  mlm : LimiterRecord
  dsh : Vector DshSection 6
  cds : Cds
  ssr : Ssr
  pending : List Instr
  inbound : List InFrame

/-- What of a state stands through a demand event. -/
def State.standing (s : State) : Standing :=
  { now := s.now, power := s.power, settings := s.settings, ssu := s.ssu, evm := s.evm, mlm := s.mlm, dsh := s.dsh
    cds := s.cds, ssr := s.ssr, pending := s.pending, inbound := s.clp.inbound }

section Standing

variable (s : State)

@[simp] theorem State.setWce_standing (x : Wce) : (s.setWce x).standing = s.standing := rfl
@[simp] theorem State.setWlc_standing (x : Wlc) : (s.setWlc x).standing = s.standing := rfl
@[simp] theorem State.setLt_standing (x : Trip) : (s.setLt x).standing = s.standing := rfl
@[simp] theorem raiseReport_standing (r : Report) : (raiseReport r s).standing = s.standing := rfl

@[simp] theorem State.ite_standing (p : Prop) [Decidable p] (a b : State) :
    (if p then a else b).standing = if p then a.standing else b.standing := apply_ite State.standing p a b

@[simp] theorem latchIf_standing (b : Bool) (src : ChangeSource) : (latchIf b src s).standing = s.standing := by
  simp [State.standing]

@[simp] theorem latch_standing (src : ChangeSource) : (latch src s).standing = s.standing :=
  latchIf_standing s true src

@[simp] theorem failTare_standing (reason : TareReason) : (failTare reason s).standing = s.standing := by
  simp [failTare, endTare]

@[simp] theorem closureEvent_standing : (closureEvent s).standing = s.standing := by simp [closureEvent]

@[simp] theorem closureTest_standing : (closureTest s).standing = s.standing := by
  unfold closureTest
  split <;> split <;> simp

@[simp] theorem fileLift_standing (d : LiftDirection) (a : Fin 16) (mass : Option Nat) (flags : LiftFlags) :
    (fileLift d a mass flags s).1.standing = s.standing := by
  unfold fileLift
  split <;> simp [payloadTest]

@[simp] theorem closeGrip_standing : (closeGrip s).standing = s.standing := by
  have hfiled : (handOver s.wce.originOf s.evm.bunk s).1.standing = s.standing := by
    unfold handOver
    split <;> simp
  simp [closeGrip, hfiled]

@[simp] theorem endCapture_standing (outcome : CaptureOutcome) (below : Bool) :
    (endCapture outcome below s).standing = s.standing := rfl

@[simp] theorem releaseEvent_standing : (releaseEvent s).standing = s.standing := by
  unfold releaseEvent
  split <;> simp [endUnweighed]

@[simp] theorem releaseTest_standing : (releaseTest s).standing = s.standing := by simp [releaseTest]

@[simp] theorem liftConditions_standing : (liftConditions s).standing = s.standing := by
  unfold liftConditions
  split
  case h_1 =>
    rw [triggerArmed_frame]
    rfl
  all_goals simp

@[simp] theorem demandEvent_standing : (demandEvent s).standing = s.standing := by simp [demandEvent]

end Standing

/-! #### DEMAND_EXPIRY -/

theorem demandExpired_of_due {s : State} {v : ValveSection} {due : Nat} (h : s.dsh[v.index].expiryDue = some due)
    (hdue : due ≤ s.now) :
    demandExpired v s =
      demandEvent (s.setDsh (s.dsh.set v.index
        { s.dsh[v.index] with held := 0, expiryDue := none, expired := true, latch := true })) := by
  refine if_pos ?_
  rw [h, isDue_some]
  exact decide_eq_true hdue

theorem demandExpired_of_early {s : State} {v : ValveSection}
    (h : ∀ due, s.dsh[v.index].expiryDue = some due → s.now < due) : demandExpired v s = s := by
  refine if_neg fun hdue => ?_
  cases hage : s.dsh[v.index].expiryDue with
  | none =>
    rw [hage] at hdue
    cases hdue
  | some due =>
    rw [hage, isDue_some, decide_eq_true_eq] at hdue
    exact absurd hdue (not_le.2 (h due hage))

/-- Settles O28: the section's demand is dropped, and what the demand event leaves standing stands. -/
theorem demandExpiryDropsDemand : Obligations.DemandExpiryDropsDemand := by
  intro s dt v hmain
  have hexec : exec (.demandExpiry dt v) s = .next (demandExpired v (s.tick dt)) := onSupply_main dt s _ hmain
  refine ⟨fun due hage hdue => ?_, fun hearly => ?_⟩
  · have hdropped := demandExpired_of_due (s := s.tick dt) hage hdue
    have hstanding := demandEvent_standing ((s.tick dt).setDsh (s.dsh.set v.index
      { s.dsh[v.index] with held := 0, expiryDue := none, expired := true, latch := true }))
    refine ⟨s.dsh.set v.index { s.dsh[v.index] with held := 0, expiryDue := none, expired := true, latch := true }, _,
      ?_, fun i hi => ?_, rfl, hexec.trans (congrArg _ hdropped), congrArg Standing.now hstanding,
      congrArg Standing.dsh hstanding, congrArg Standing.inbound hstanding, congrArg Standing.cds hstanding,
      congrArg Standing.settings hstanding, congrArg Standing.ssu hstanding, congrArg Standing.evm hstanding,
      congrArg Standing.mlm hstanding, congrArg Standing.ssr hstanding, congrArg Standing.power hstanding,
      congrArg Standing.pending hstanding⟩
    · simp
    · have hne : (v.index : Nat) ≠ i := fun h => hi (Fin.ext h.symm)
      simp [hne]
  · rw [hexec, demandExpired_of_early (s := s.tick dt) hearly]
    rfl

/-! #### The supply at a Drive -/

section Supply

variable (halt : Bool) (s : State)

/-- What a Drive does to the supply: nothing, a lock from another state, or a wake from ASLEEP (R167, R171). -/
theorem driveSupply_cases :
    (driveSupply halt s = s ∧ (halt = true → s.cds.supply = .locked)) ∨
      (halt = true ∧ s.cds.supply ≠ .locked ∧ driveSupply halt s = lockSupply .halt s) ∨
      (halt = false ∧ s.cds.supply = .asleep ∧ driveSupply halt s = wakeSupply s) := by
  unfold driveSupply lockUnlessLocked
  cases halt
  · by_cases hwake : (s.cds.supply = .asleep && anyHeld s.dsh) = true
    · have hasleep : s.cds.supply = .asleep := by simp_all
      exact .inr (.inr ⟨rfl, hasleep, if_pos hwake⟩)
    · exact .inl ⟨if_neg hwake, nofun⟩
  · by_cases hlocked : s.cds.supply = .locked
    · exact .inl ⟨if_pos hlocked, fun _ => hlocked⟩
    · exact .inr (.inl ⟨rfl, hlocked, if_neg hlocked⟩)

/-- A latch and a change of the supply and the sections do not touch each other. -/
theorem latch_setCds_setDsh (src : ChangeSource) (c : Cds) (d : Vector DshSection 6) :
    latch src ((s.setCds c).setDsh d) = ((latch src s).setCds c).setDsh d := by
  rw [latch_eq, latch_eq, apply_ite (fun t : State => (t.setCds c).setDsh d)]
  rfl

/-- The state with SupplyLocked latched when this Drive locks the supply (R165, R171). -/
def lockLatched : State := if halt = true ∧ s.cds.supply ≠ .locked then latch .supplyLocked s else s

/-- A Drive's part on the supply moves the supply and the sections, and latches SupplyLocked at a lock. -/
theorem driveSupply_frame :
    driveSupply halt s = ((lockLatched halt s).setCds (driveSupply halt s).cds).setDsh (driveSupply halt s).dsh := by
  rcases driveSupply_cases halt s with ⟨hsame, hlocked⟩ | ⟨hhalt, hne, hlock⟩ | ⟨hhalt, -, hwake⟩
  · rw [lockLatched, if_neg (by simpa using hlocked), hsame]
    rfl
  · rw [lockLatched, if_pos ⟨hhalt, hne⟩, hlock, ← latch_setCds_setDsh]
    simp [lockSupply, State.publishCds]
  · rw [lockLatched, if_neg (by simp [hhalt]), hwake]
    rfl

theorem driveSupply_dsh_of_same (h : (driveSupply halt s).cds.supply = s.cds.supply) :
    (driveSupply halt s).dsh = s.dsh := by
  rcases driveSupply_cases halt s with ⟨hsame, -⟩ | ⟨-, hne, hlock⟩ | ⟨-, hasleep, hwake⟩
  · rw [hsame]
  · rw [hlock] at h
    exact absurd h.symm (by simpa [lockSupply] using hne)
  · rw [hwake, hasleep] at h
    exact absurd h (by simp [wakeSupply])

/-- A supply that moves sets every latch, and a lock stops every output (R138). -/
theorem driveSupply_dsh_of_moved (h : (driveSupply halt s).cds.supply ≠ s.cds.supply) (i : Fin 6) :
    (driveSupply halt s).dsh[i] =
      { s.dsh[i] with
        latch := true, output := if (driveSupply halt s).cds.supply = .locked then 0 else s.dsh[i].output } := by
  rcases driveSupply_cases halt s with ⟨hsame, -⟩ | ⟨-, -, hlock⟩ | ⟨-, -, hwake⟩
  · rw [hsame] at h
    exact absurd rfl h
  · rw [hlock]
    simp [lockSupply, lockSections]
  · rw [hwake]
    simp [wakeSupply, setLatches]

end Supply

/-! #### DRIVE -/

section Drive

variable {s : State} {tag : Byte} {fields : List Byte} {rest : List InFrame} {r : DriveRequest} (dt : Nat)

theorem exec_drive_asked (h : s.asked 0x10#8 tag fields rest) (hr : decodeAll readDrive fields = some r) :
    exec (.drive dt) s =
      .next
        (putReply s.clp.outbound.length { kind := 0x10#8, tag := tag, fields := fields }
          (driveOwner r (takenState dt { kind := 0x10#8, tag := tag, fields := fields } rest s))) :=
  asked_decoded driveOwner h hr

theorem driveOwner_of_bad (h : 1 < r.enable ∨ 1 < r.halt) (s : State) :
    driveOwner r s = { state := s, result := .badField, body := s.driveReply } :=
  if_pos (by simpa using h)

theorem driveOwner_of_good (henable : r.enable ≤ 1) (hhalt : r.halt ≤ 1) (s : State) :
    driveOwner r s = answerDone (driveTaken r s) (driveTaken r s).driveReply :=
  if_neg (by simp; omega)

/-- The six sections at a Drive that is taken `dt` ms later (R135 to R137). -/
def State.drivenSections (s : State) (dt : Nat) (r : DriveRequest) : Vector DshSection 6 :=
  Vector.ofFn fun i =>
    driveSection (s.now + dt + s.settings.common.expiryTime) (r.enable == 1) (r.demands.getD i 0) s.dsh[i]

theorem drivenSections_getElem (s : State) (henable : r.enable ≤ 1) (i : Fin 6) :
    ∃ x : Int, x = max (-1000) (min 1000 (r.demands.getD i 0)) ∧
      (s.drivenSections dt r)[i] =
        { s.dsh[i] with
          held := if r.enable = 1 then x else 0
          expiryDue := some (s.now + dt + s.settings.common.expiryTime)
          expired := false
          disabled := r.enable == 0
          latch := if r.enable = 1 ∧ |x| < 50 then false else s.dsh[i].latch } := by
  refine ⟨_, rfl, ?_⟩
  have hsmall (x : Int) : x.natAbs < 50 ↔ |x| < 50 := by
    rw [Int.abs_eq_natAbs]
    omega
  rw [← clampInt_eq (-1000) 1000 (r.demands.getD i 0) (by omega)]
  obtain he | he : r.enable = 0 ∨ r.enable = 1 := by omega
  · simp [State.drivenSections, driveSection, he]
  · simp [State.drivenSections, driveSection, clampDemand, he, hsmall, Bool.and_comm]

/-- A Drive moves no output by itself. -/
theorem drivenSections_output (s : State) (r : DriveRequest) (i : Fin 6) :
    (s.drivenSections dt r)[i].output = s.dsh[i].output := by
  simp [State.drivenSections, driveSection]

/-- A Drive's reply when only the supply and the sections have moved since (R184). -/
theorem driveReply_eq (s : State) : s.driveReply =
    .drive
      { sections := Vector.ofFn fun i => (s.cds.sections[i].output, s.cds.sections[i].state)
        supply := s.cds.supply
        limiter := s.mlm.state
        u := s.mlm.figures.map MomentFigures.u
        bunk := s.evm.bunk
        engine := s.wce.state } := rfl

/-- The state whose demand event a taken Drive makes: the demands held, and the reply's place taken (R135, R183). -/
def State.driven (s : State) (dt : Nat) (tag : Byte) (rest : List InFrame) (r : DriveRequest) : State :=
  { s with
    now := s.now + dt
    dsh := s.drivenSections dt r
    clp := s.clp.answered rest 0x10#8 tag .done .none }

theorem driveTaken_takenState (s : State) :
    driveTaken r (takenState dt { kind := 0x10#8, tag := tag, fields := fields } rest s) =
      driveSupply (r.halt == 1) (demandEvent (s.driven dt tag rest r)) := rfl

theorem lockLatched_standing (halt : Bool) (s : State) : (lockLatched halt s).standing = s.standing := by
  simp [lockLatched]

end Drive

/-- A Drive's part on the supply leaves standing what the demand event left, but for the supply and the sections. -/
theorem driveSupply_standing (halt : Bool) (s : State) :
    (driveSupply halt s).standing =
      { s.standing with dsh := (driveSupply halt s).dsh, cds := (driveSupply halt s).cds } := by
  have hstanding := congrArg State.standing (driveSupply_frame halt s)
  rw [← lockLatched_standing halt s]
  exact hstanding

/-- Settles O26: the demand event works on the demands held, and the supply's move is a change of supply and sections on
top of it. -/
theorem driveHoldsDemands : Obligations.DriveHoldsDemands := by
  intro s dt tag fields rest r h hr
  rw [exec_drive_asked dt h hr]
  refine ⟨fun hbad => ?_, fun henable hhalt => ?_⟩
  · rw [driveOwner_of_bad hbad]
    exact congrArg _ (putReply_same ..)
  rw [driveOwner_of_good henable hhalt, driveTaken_takenState]
  set u := demandEvent (s.driven dt tag rest r)
  have hu : u.standing = (s.driven dt tag rest r).standing := demandEvent_standing _
  have hcds : u.cds = s.cds := congrArg Standing.cds hu
  have hdsh : u.dsh = s.drivenSections dt r := congrArg Standing.dsh hu
  have hframe := driveSupply_frame (r.halt == 1) u
  have hv := driveSupply_standing (r.halt == 1) u
  have hsame := driveSupply_dsh_of_same (r.halt == 1) u
  have hmoved := driveSupply_dsh_of_moved (r.halt == 1) u
  rw [hu] at hv
  rw [hcds, hdsh] at hsame hmoved
  set v := driveSupply (r.halt == 1) u
  have hmlm : v.mlm = s.mlm := congrArg Standing.mlm hv
  have hevm : v.evm = s.evm := congrArg Standing.evm hv
  refine ⟨s.drivenSections dt r, u, lockLatched (r.halt == 1) u, _, drivenSections_getElem dt s henable, rfl, ?_, rfl,
    ?_, hsame, fun hne i => ?_, congrArg Standing.now hv, congrArg Standing.inbound hv, congrArg Standing.settings hv,
    congrArg Standing.ssu hv, hevm, hmlm, congrArg Standing.ssr hv, congrArg Standing.power hv,
    congrArg Standing.pending hv⟩
  · simp only [lockLatched, hcds, beq_iff_eq]
  · rw [driveReply_eq, hmlm, hevm]
    exact congrArg (State.putOut · s.clp.outbound.length _) hframe
  · rw [← drivenSections_output dt s r i]
    exact hmoved hne i

end Sys2Proof.Machine
end

section
/-! ### Filing, and the release test of a demand event -/

namespace Sys2Proof.Machine

open Sys2Proof

/-! #### The totals of one entry -/

theorem fits_iff (t : DirTotals) :
    t.fits = true ↔ ∀ x ∈ [t.count, t.weighed, t.mass, t.unlisted, t.unlistedMass], x ≤ 4294967295 := by
  unfold DirTotals.fits totalMax
  simp [and_assoc]

theorem TallyEntry.setDir_dir_same (e : TallyEntry) (d : LiftDirection) (t : DirTotals) : (e.setDir d t).dir d = t := by
  cases d <;> rfl

theorem TallyEntry.setDir_dir_other (e : TallyEntry) {d d' : LiftDirection} (h : d' ≠ d) (t : DirTotals) :
    (e.setDir d t).dir d' = e.dir d' := by
  cases d with
  | load =>
    cases d' with
    | load => exact absurd rfl h
    | unload => rfl
  | unload =>
    cases d' with
    | load => rfl
    | unload => exact absurd rfl h

theorem setTotals_dir_same (table : Vector TallyEntry 16) (a : Fin 16) (d : LiftDirection) (t : DirTotals) :
    (setTotals table a d t)[a].dir d = t := by
  simp [setTotals, TallyEntry.setDir_dir_same]

theorem setTotals_dir_other (table : Vector TallyEntry 16) {a b : Fin 16} {d e : LiftDirection} (t : DirTotals)
    (h : b ≠ a ∨ e ≠ d) : (setTotals table a d t)[b].dir e = table[b].dir e := by
  by_cases hb : b = a
  · subst hb
    simp [setTotals, TallyEntry.setDir_dir_other _ (h.resolve_left (not_not.2 rfl))]
  · have hne : (a : Nat) ≠ b := fun hab => hb (Fin.ext hab.symm)
    simp [setTotals, hne]

/-- What an entry adds to the estimate (R79). -/
def TallyEntry.balance (e : TallyEntry) : Int := (e.loads.mass : Int) - (e.unloads.mass : Int)

/-- One entry's totals replaced move the estimate by the change of that entry's balance (R79). -/
theorem tableEstimate_setTotals (table : Vector TallyEntry 16) (a : Fin 16) (d : LiftDirection) (t : DirTotals) :
    tableEstimate (setTotals table a d t) =
      tableEstimate table + ((table[a].setDir d t).balance - table[a].balance) := by
  have hsum := List.sum_set' (table.toList.map TallyEntry.balance) a (table[a].setDir d t).balance
  rw [dif_pos (by simp), ← List.map_set, ← Vector.toList_set] at hsum
  simp only [List.getElem_map, Vector.getElem_toList] at hsum
  refine hsum.trans ?_
  rw [neg_add_eq_sub]
  rfl

/-- A load adds its mass to the estimate, an unload takes it off (R79). -/
theorem setDir_balance (e : TallyEntry) (d : LiftDirection) (t : DirTotals) {m : Nat}
    (h : t.mass = (e.dir d).mass + m) :
    (e.setDir d t).balance - e.balance = if d = .load then (m : Int) else -m := by
  cases d <;> simp only [TallyEntry.dir] at h <;> simp [TallyEntry.setDir, TallyEntry.balance, h]

/-! #### A filing -/

theorem listsNext_iff (t : Trip) : t.listsNext = true ↔ t.counter < 65535 ∧ t.lifts.length < 96 := by
  unfold Trip.listsNext counterMax listMax
  simp

theorem filedTotals_eq (t : Trip) (d : LiftDirection) (a : Fin 16) (mass : Option Nat) :
    t.filedTotals d a mass =
      { count := (t.table[a].dir d).count + 1
        weighed := (t.table[a].dir d).weighed + (if mass = none then 0 else 1)
        mass := (t.table[a].dir d).mass + mass.getD 0
        unlisted := if t.listsNext then (t.table[a].dir d).unlisted else (t.table[a].dir d).unlisted + 1
        unlistedMass :=
          if t.listsNext then (t.table[a].dir d).unlistedMass else (t.table[a].dir d).unlistedMass + mass.getD 0 } := by
  have hweighed : weighedCount mass = if mass = none then 0 else 1 := by cases mass <;> rfl
  cases hl : t.listsNext <;> simp [Trip.filedTotals, DirTotals.addListed, DirTotals.addUnlisted, hl, hweighed]

/-- A filing moves the estimate by its mass (R79, R81, R82). -/
theorem filed_estimate {t : Trip} (h : t.estimate = tableEstimate t.table) (d : LiftDirection) (a : Fin 16)
    (mass : Option Nat) (flags : LiftFlags) :
    (t.filed d a mass flags).estimate = if d = .load then t.estimate + mass.getD 0 else t.estimate - mass.getD 0 := by
  have hmass : (t.filedTotals d a mass).mass = (t.table[a].dir d).mass + mass.getD 0 := by rw [filedTotals_eq]
  have hmoved := tableEstimate_setTotals t.table a d (t.filedTotals d a mass)
  rw [setDir_balance _ _ _ hmass, ← h] at hmoved
  refine hmoved.trans ?_
  split <;> omega

theorem fileLift_of_full {s : State} {d : LiftDirection} {a : Fin 16} {mass : Option Nat} {flags : LiftFlags}
    (h : ∃ x ∈ [(s.lt.filedTotals d a mass).count, (s.lt.filedTotals d a mass).weighed,
      (s.lt.filedTotals d a mass).mass, (s.lt.filedTotals d a mass).unlisted,
      (s.lt.filedTotals d a mass).unlistedMass], 4294967295 < x) : fileLift d a mass flags s = (s, none) := by
  refine if_neg fun hfits => ?_
  obtain ⟨x, hx, hlt⟩ := h
  exact absurd ((fits_iff _).1 hfits x hx) (not_le.2 hlt)

theorem fileLift_of_fits {s : State} {d : LiftDirection} {a : Fin 16} {mass : Option Nat} {flags : LiftFlags}
    (h : (s.lt.filedTotals d a mass).fits = true) :
    fileLift d a mass flags s =
      (payloadTest s.payload
        (if s.lt.listsNext then s.setLt (s.lt.filed d a mass flags)
        else latch .listFull (s.setLt (s.lt.filed d a mass flags))),
        some (s.lt.answer d a mass flags)) := by
  rw [fileLift, if_pos h]
  cases s.lt.listsNext <;> rfl

/-! #### A filing and the engine -/

section Frames

variable (s : State) (d : LiftDirection) (a : Fin 16) (mass : Option Nat) (flags : LiftFlags)

/-- A filing changes the tally and the port alone. -/
theorem fileLift_frame : (fileLift d a mass flags s).1 =
    (s.setLt (fileLift d a mass flags s).1.lt).setClp (fileLift d a mass flags s).1.clp := by
  unfold fileLift
  split
  · simp only [payloadTest]
    rw [latchIf_frame, latchIf_frame _ _ (latchIf _ _ _), latchIf_frame _ _ (s.setLt _)]
    rfl
  · rfl

theorem latchIf_setWce (b : Bool) (src : ChangeSource) (e : Wce) :
    latchIf b src (s.setWce e) = (latchIf b src s).setWce e := by
  cases b
  · rfl
  · exact latch_setWce src s e

/-- A filing does not look at the engine. -/
theorem fileLift_setWce (e : Wce) : fileLift d a mass flags (s.setWce e) =
    ((fileLift d a mass flags s).1.setWce e, (fileLift d a mass flags s).2) := by
  have hpayload (before : PayloadState) (s : State) :
      payloadTest before (s.setWce e) = (payloadTest before s).setWce e := by
    simp only [payloadTest, latchIf_setWce]
    rfl
  by_cases hfits : (s.lt.filedTotals d a mass).fits = true
  · unfold fileLift
    rw [State.setWce_lt, if_pos hfits, if_pos hfits, ← hpayload, ← latchIf_setWce]
    rfl
  · unfold fileLift
    rw [State.setWce_lt, if_neg hfits, if_neg hfits]

end Frames

/-! #### The hand-over of a grip -/

section HandOver

variable (origin drop : BunkMembership) (s : State)

theorem handOver_frame : (handOver origin drop s).1 =
    (s.setLt (handOver origin drop s).1.lt).setClp (handOver origin drop s).1.clp := by
  unfold handOver
  split
  · exact fileLift_frame ..
  · rfl

theorem handOver_setWce {e : Wce} (h : e.held = s.wce.held) : handOver origin drop (s.setWce e) =
    ((handOver origin drop s).1.setWce e, (handOver origin drop s).2) := by
  unfold handOver
  rw [State.setWce_wce, h]
  split
  · exact fileLift_setWce ..
  · rfl

/-- A LOAD and an UNLOAD file the pending lift; a REPOSITION and a RETURNED file nothing (R67, R68). -/
theorem handOver_cases :
    (origin = .inside ∧ drop = .inside ∧ dispositionOf origin drop = .reposition ∧ handOver origin drop s = (s, none)) ∨
      (origin ≠ .inside ∧ drop ≠ .inside ∧ dispositionOf origin drop = .returned ∧
        handOver origin drop s = (s, none)) ∨
      ∃ d : LiftDirection,
        ((origin ≠ .inside ∧ drop = .inside ∧ dispositionOf origin drop = .load ∧ d = .load) ∨
          (origin = .inside ∧ drop ≠ .inside ∧ dispositionOf origin drop = .unload ∧ d = .unload)) ∧
        handOver origin drop s =
          fileLift d s.lt.assortment (handedMass s.wce.held) (handedFlags s.wce.held origin drop) s := by
  by_cases ho : origin = .inside <;> by_cases hd : drop = .inside <;>
    simp [handOver, dispositionOf, BunkMembership.isInside, Disposition.direction, ho, hd]

end HandOver

theorem captureSummary_spec (held : Option PendingLift) :
    (captureSummary held = .none ↔ held = none) ∧
      (captureSummary held = .weighed ↔ ∃ p m, held = some p ∧ p.outcome = .weighed m) ∧
      ∀ why, captureSummary held = .unweighed why ↔ ∃ p, held = some p ∧ p.outcome = .unweighed why := by
  cases held with
  | none => simp [captureSummary]
  | some p => cases h : p.outcome <;> simp [captureSummary, h]

/-! #### The release test -/

section Release

variable {s : State}

/-- The engine with the open edge of the latest release test (R48). -/
def Wce.edged (e : Wce) (isOpen : Bool) : Wce := { e with openEdge := isOpen }

/-- The engine with its grip closed by the release test (R67, R68). -/
def Wce.released (e : Wce) : Wce := { e with openEdge := true, held := none, origin := none, state := .idle }

theorem releaseTest_of_closed (h : ¬(s.settings.capture.gripThreshold : Int) ≤ -s.heldOf .grapple) :
    releaseTest s = s.setWce (s.wce.edged false) := by
  simp [releaseTest, h, Wce.edged]

theorem releaseTest_of_open (h : (s.settings.capture.gripThreshold : Int) ≤ -s.heldOf .grapple) :
    releaseTest s =
      if s.wce.openEdge then s.setWce (s.wce.edged true) else releaseEvent (s.setWce (s.wce.edged true)) := by
  cases he : s.wce.openEdge <;> simp [releaseTest, h, he, Wce.edged]

theorem releaseEvent_of_idle (h : s.wce.state = .idle) : releaseEvent s = s := by simp only [releaseEvent, h]

theorem releaseEvent_of_open (h : s.wce.state = .gripped ∨ s.wce.state = .armed ∨ s.wce.state = .held) :
    releaseEvent s = closeGrip s := by
  rcases h with h | h | h <;> simp only [releaseEvent, h]

theorem releaseEvent_of_capturing (h : s.wce.state = .collecting ∨ s.wce.state = .suspended) :
    releaseEvent s = closeGrip (endUnweighed .released s) := by
  rcases h with h | h <;> simp only [releaseEvent, h]

/-- The Lift Filed report of a grip closed with this origin (R70). -/
def State.liftFiled (s : State) (origin : BunkMembership) : LiftFiledReport :=
  { grip := s.wce.grip
    origin := origin
    drop := s.evm.bunk
    disposition := dispositionOf origin s.evm.bunk
    capture := captureSummary s.wce.held
    filed := (handOver origin s.evm.bunk s).2 }

/-- A grip closed at a rise of the open edge, with the filing done as if the edge had not been noted yet. -/
theorem closeGrip_edged {origin : BunkMembership} (h : s.wce.origin = some origin) :
    closeGrip (s.setWce (s.wce.edged true)) =
      raiseReport (.liftFiled (s.liftFiled origin))
        ((handOver origin s.evm.bunk s).1.setWce s.wce.released) := by
  have horigin : (s.setWce (s.wce.edged true)).wce.originOf = origin := by
    simp [Wce.originOf, Wce.edged, h]
  have hover : handOver origin s.evm.bunk (s.setWce (s.wce.edged true)) =
      ((handOver origin s.evm.bunk s).1.setWce (s.wce.edged true), (handOver origin s.evm.bunk s).2) :=
    handOver_setWce _ _ _ rfl
  simp only [closeGrip, horigin, State.setWce_evm, hover]
  rfl

end Release

/-- A rise of the edge with a grip open closes the grip: what it hands over, and what it reports (R48, R67, R68,
R70). -/
theorem releaseTest_of_rise {s : State} {origin : BunkMembership}
    (hopen : (s.settings.capture.gripThreshold : Int) ≤ -s.heldOf .grapple) (hedge : s.wce.openEdge = false)
    (horigin : s.wce.origin = some origin)
    (hstate : s.wce.state = .gripped ∨ s.wce.state = .armed ∨ s.wce.state = .held) :
    releaseTest s =
      raiseReport (.liftFiled (s.liftFiled origin))
        ((handOver origin s.evm.bunk s).1.setWce s.wce.released) := by
  rw [releaseTest_of_open hopen, if_neg (by simp [hedge]),
    releaseEvent_of_open (s := s.setWce (s.wce.edged true)) hstate, closeGrip_edged horigin]

/-- A rise of the edge in a capture ends it as Released first (R69). -/
theorem releaseTest_of_capturing {s : State} (hopen : (s.settings.capture.gripThreshold : Int) ≤ -s.heldOf .grapple)
    (hedge : s.wce.openEdge = false) (hstate : s.wce.state = .collecting ∨ s.wce.state = .suspended) :
    releaseTest s = releaseTest (endCapture (.unweighed .released) false s) := by
  have hended : releaseTest (endCapture (.unweighed .released) false s) =
      closeGrip (endCapture (.unweighed .released) false (s.setWce (s.wce.edged true))) := by
    rw [releaseTest_of_open (s := endCapture (.unweighed .released) false s) hopen, if_neg]
    · exact releaseEvent_of_open (.inr (.inr rfl))
    · exact Bool.eq_false_iff.1 hedge
  rw [hended, releaseTest_of_open hopen, if_neg (by simp [hedge]),
    releaseEvent_of_capturing (s := s.setWce (s.wce.edged true)) hstate]
  rfl

/-- Settles O30: what a filing does by the totals it would leave, then the release test by the edge and the engine
state. -/
theorem releaseTestClosesGrip : Obligations.ReleaseTestClosesGrip := by
  refine ⟨?_, fun s => ⟨fun hclosed => ?_, fun hopen => ?_⟩⟩
  · intro s d a mass flags listed m w number old new hsound hlisted hm hw hnumber hold hnew
    obtain rfl : listed = s.lt.listsNext := Bool.eq_iff_iff.2 (hlisted.trans (listsNext_iff _).symm)
    obtain rfl : number = s.lt.nextNumber := hnumber
    subst hm hw hold
    obtain rfl : new = s.lt.filedTotals d a mass := hnew.trans (filedTotals_eq _ _ _ _).symm
    refine ⟨fileLift_of_full, fun hfits => ?_⟩
    obtain ⟨-, hestimate, -⟩ := hsound
    refine ⟨_, s.setLt (s.lt.filed d a mass flags), setTotals_dir_same _ _ _ _,
      fun b e hother => setTotals_dir_other _ _ hother, ?_, fileLift_of_fits ((fits_iff _).2 hfits)⟩
    rw [← filed_estimate hestimate d a mass flags]
    rfl
  · exact releaseTest_of_closed (not_le.2 (neg_lt.1 hclosed))
  · have hopen : (s.settings.capture.gripThreshold : Int) ≤ -s.heldOf .grapple := le_neg_of_le_neg hopen
    refine ⟨fun hsame => ?_, fun hedge origin horigin => ⟨fun hstate => ?_, releaseTest_of_capturing hopen hedge⟩⟩
    · rw [releaseTest_of_open hopen]
      split
      · rfl
      · rename_i hrise
        exact releaseEvent_of_idle (s := s.setWce (s.wce.edged true)) (hsame.resolve_left hrise)
    · obtain ⟨hnone, hweighed, hunweighed⟩ := captureSummary_spec s.wce.held
      refine ⟨_, (handOver origin s.evm.bunk s).1, (handOver origin s.evm.bunk s).2, dispositionOf origin s.evm.bunk,
        releaseTest_of_rise hopen hedge horigin hstate, rfl, ?_, rfl,
        ⟨captureSummary s.wce.held, hnone, hweighed, hunweighed, rfl⟩,
        congrArg (fun f => raiseReport (.liftFiled (s.liftFiled origin)) (f.setWce s.wce.released))
          (handOver_frame _ _ s)⟩
      rcases handOver_cases origin s.evm.bunk s with ⟨ho, hd, hdisposition, hover⟩ | ⟨ho, hd, hdisposition, hover⟩ |
        ⟨d, hd, hover⟩
      · exact .inl ⟨ho, hd, hdisposition, congrArg Prod.fst hover, congrArg Prod.snd hover⟩
      · exact .inr (.inl ⟨ho, hd, hdisposition, congrArg Prod.fst hover, congrArg Prod.snd hover⟩)
      · rw [handedMass_eq] at hover
        exact .inr (.inr ⟨d, hd, hover⟩)

end Sys2Proof.Machine
end

section
/-! ### The totals, the list and the estimate of a trip record -/

namespace Sys2Proof.Machine

open Sys2Proof

/-! #### Totals against the records they stand for -/

/-- Totals agree with the listed records they stand for, and fit (R78, R85). -/
def DirTotals.Agrees (t : DirTotals) (l : List LiftRecord) : Prop :=
  t.count = l.length + t.unlisted ∧ t.mass = (l.map LiftRecord.contribution).sum + t.unlistedMass ∧ t.fits = true

section Agrees

variable {t : DirTotals} {x x' : LiftRecord} {l l₁ l₂ : List LiftRecord}

/-- A record's contribution is part of the mass total it stands in (R78). -/
theorem DirTotals.Agrees.contribution_le (h : t.Agrees (l₁ ++ x :: l₂)) : x.contribution ≤ t.mass := by
  obtain ⟨-, hmass, -⟩ := h
  simp only [List.map_append, List.map_cons, List.sum_append, List.sum_cons] at hmass
  omega

/-- The totals less a record agree with the list less that record (R89). -/
theorem DirTotals.Agrees.leave (h : t.Agrees (l₁ ++ x :: l₂)) : (t.leave x).Agrees (l₁ ++ l₂) := by
  obtain ⟨hcount, hmass, hfits⟩ := h
  simp only [List.length_append, List.length_cons] at hcount
  simp only [List.map_append, List.map_cons, List.sum_append, List.sum_cons] at hmass
  simp only [fits_iff, List.forall_mem_cons] at hfits
  obtain ⟨hc, hw, hm, hu, hum, -⟩ := hfits
  refine ⟨?_, ?_, (fits_iff _).2 ?_⟩
  · simp only [DirTotals.leave, List.length_append]
    omega
  · simp only [DirTotals.leave, List.map_append, List.sum_append]
    omega
  · simp only [DirTotals.leave, List.forall_mem_cons]
    exact ⟨by omega, by omega, by omega, hu, hum, nofun⟩

/-- The totals with a record agree with the list with that record, when they fit (R81, R91). -/
theorem DirTotals.Agrees.join (h : t.Agrees (l₁ ++ l₂)) (hfits : (t.join x).fits = true) :
    (t.join x).Agrees (l₁ ++ x :: l₂) := by
  obtain ⟨hcount, hmass, -⟩ := h
  simp only [List.length_append] at hcount
  simp only [List.map_append, List.sum_append] at hmass
  refine ⟨?_, ?_, hfits⟩
  · simp only [DirTotals.join, List.length_append, List.length_cons]
    omega
  · simp only [DirTotals.join, List.map_append, List.map_cons, List.sum_append, List.sum_cons]
    omega

/-- The totals after a correction agree with the list that holds the corrected record, when they fit (R90). -/
theorem DirTotals.Agrees.correct (h : t.Agrees (l₁ ++ x :: l₂))
    (hfits : (t.correct x.contribution x'.contribution).fits = true) :
    (t.correct x.contribution x'.contribution).Agrees (l₁ ++ x' :: l₂) := by
  obtain ⟨hcount, hmass, -⟩ := h
  simp only [List.map_append, List.map_cons, List.sum_append, List.sum_cons] at hmass
  refine ⟨?_, ?_, hfits⟩
  · simpa [DirTotals.correct] using hcount
  · simp only [DirTotals.correct, List.map_append, List.map_cons, List.sum_append, List.sum_cons]
    omega

/-- The totals of a lift filed unlisted agree with the list as it was, when they fit (R82). -/
theorem DirTotals.Agrees.addUnlisted {mass : Option Nat} (h : t.Agrees l) (hfits : (t.addUnlisted mass).fits = true) :
    (t.addUnlisted mass).Agrees l := by
  obtain ⟨hcount, hmass, -⟩ := h
  exact ⟨by simp only [DirTotals.addUnlisted]; omega, by simp only [DirTotals.addUnlisted]; omega, hfits⟩

/-- The totals of a lift filed listed are those its new record joins: it has no correction yet (R81). -/
theorem addListed_eq_join (t : DirTotals) (hcorrection : x.correction = none) : t.addListed x.mass = t.join x := by
  have hcontribution : x.contribution = x.mass.getD 0 := by
    cases hm : x.mass <;> simp [LiftRecord.contribution, LiftRecord.effective, effectiveOf, hm, hcorrection]
  simp [DirTotals.addListed, DirTotals.join, hcontribution]

end Agrees

/-! #### The table against the list -/

/-- Every entry's totals agree with its listed records (R78). -/
def TableAgrees (table : Vector TallyEntry 16) (lifts : List LiftRecord) : Prop :=
  ∀ (a : Fin 16) (d : LiftDirection), (table[a].dir d).Agrees (listedOf lifts a d)

theorem listedOf_append (before after : List LiftRecord) (a : Fin 16) (d : LiftDirection) :
    listedOf (before ++ after) a d = listedOf before a d ++ listedOf after a d := List.filter_append ..

theorem listedOf_cons_same (x : LiftRecord) (after : List LiftRecord) :
    listedOf (x :: after) x.assortment x.direction = x :: listedOf after x.assortment x.direction :=
  List.filter_cons_of_pos (by simp)

theorem listedOf_cons_other {x : LiftRecord} {a : Fin 16} {d : LiftDirection}
    (h : a ≠ x.assortment ∨ d ≠ x.direction) (after : List LiftRecord) :
    listedOf (x :: after) a d = listedOf after a d := by
  refine List.filter_cons_of_neg ?_
  simp only [Bool.and_eq_true, beq_iff_eq, not_and_or]
  exact h.imp Ne.symm Ne.symm

/-- The listed records of a record's own entry, split at it. -/
theorem listedOf_split_same {x : LiftRecord} {a : Fin 16} {d : LiftDirection} (ha : x.assortment = a)
    (hd : x.direction = d) (before after : List LiftRecord) :
    listedOf (before ++ x :: after) a d = listedOf before a d ++ x :: listedOf after a d := by
  subst ha hd
  rw [listedOf_append, listedOf_cons_same]

/-- A record does not stand in the other entries. -/
theorem listedOf_split_other {x : LiftRecord} {a : Fin 16} {d : LiftDirection}
    (h : a ≠ x.assortment ∨ d ≠ x.direction) (before after : List LiftRecord) :
    listedOf (before ++ x :: after) a d = listedOf (before ++ after) a d := by
  rw [listedOf_append, listedOf_append, listedOf_cons_other h]

section TableAgrees

variable {table : Vector TallyEntry 16} {lifts lifts' before after : List LiftRecord} {x : LiftRecord}

/-- One entry's totals replaced agree with a list whose other entries are as they were. -/
theorem TableAgrees.setTotals (h : TableAgrees table lifts) {a : Fin 16} {d : LiftDirection} {t : DirTotals}
    (hother : ∀ b e, b ≠ a ∨ e ≠ d → listedOf lifts' b e = listedOf lifts b e)
    (hentry : t.Agrees (listedOf lifts' a d)) : TableAgrees (setTotals table a d t) lifts' := by
  intro b e
  by_cases hbe : b ≠ a ∨ e ≠ d
  · rw [setTotals_dir_other _ _ hbe, hother b e hbe]
    exact h b e
  · obtain ⟨rfl, rfl⟩ : b = a ∧ e = d := by simpa only [not_or, not_not] using hbe
    rw [setTotals_dir_same]
    exact hentry

/-- The entry of a listed record, split at that record. -/
theorem TableAgrees.entry (h : TableAgrees table (before ++ x :: after)) :
    (table[x.assortment].dir x.direction).Agrees
      (listedOf before x.assortment x.direction ++ x :: listedOf after x.assortment x.direction) :=
  listedOf_split_same rfl rfl before after ▸ h x.assortment x.direction

/-- A record's contributions leave its entry with the record (R89, R91). -/
theorem TableAgrees.leave (h : TableAgrees table (before ++ x :: after)) :
    TableAgrees (Machine.setTotals table x.assortment x.direction ((table[x.assortment].dir x.direction).leave x))
      (before ++ after) := by
  refine h.setTotals (fun b e hbe => (listedOf_split_other hbe _ _).symm) ?_
  rw [listedOf_append]
  exact h.entry.leave

/-- A record's contributions join its entry with the record (R81, R91). -/
theorem TableAgrees.join (h : TableAgrees table (before ++ after))
    (hfits : ((table[x.assortment].dir x.direction).join x).fits = true) :
    TableAgrees (Machine.setTotals table x.assortment x.direction ((table[x.assortment].dir x.direction).join x))
      (before ++ x :: after) := by
  refine h.setTotals (fun b e hbe => listedOf_split_other hbe _ _) ?_
  rw [listedOf_split_same rfl rfl]
  exact (listedOf_append before after _ _ ▸ h x.assortment x.direction).join hfits

/-- A corrected record's entry takes the change of its effective mass (R90). -/
theorem TableAgrees.correct (h : TableAgrees table (before ++ x :: after)) {x' : LiftRecord}
    (hassortment : x'.assortment = x.assortment) (hdirection : x'.direction = x.direction)
    (hfits : ((table[x.assortment].dir x.direction).correct x.contribution x'.contribution).fits = true) :
    TableAgrees
      (Machine.setTotals table x.assortment x.direction
        ((table[x.assortment].dir x.direction).correct x.contribution x'.contribution))
      (before ++ x' :: after) := by
  refine h.setTotals (fun b e hbe => ?_) ?_
  · rw [listedOf_split_other hbe, listedOf_split_other (by rwa [hassortment, hdirection])]
  · rw [listedOf_split_same hassortment hdirection]
    exact h.entry.correct hfits

/-- A lift filed unlisted moves its entry's totals alone (R82). -/
theorem TableAgrees.addUnlisted (h : TableAgrees table lifts) {a : Fin 16} {d : LiftDirection} {mass : Option Nat}
    (hfits : ((table[a].dir d).addUnlisted mass).fits = true) :
    TableAgrees (Machine.setTotals table a d ((table[a].dir d).addUnlisted mass)) lifts :=
  h.setTotals (fun _ _ _ => rfl) ((h a d).addUnlisted hfits)

end TableAgrees

/-! #### The numbers of the list -/

/-- The numbers of a list are bounded in count, rise strictly and have been given (R76, R80). -/
def NumbersSound (numbers : List Nat) (counter : Nat) : Prop :=
  numbers.length ≤ 96 ∧ numbers.Pairwise (· < ·) ∧ (∀ n ∈ numbers, 1 ≤ n ∧ n ≤ counter) ∧ counter ≤ 65535

section Numbers

variable {numbers numbers' : List Nat} {counter : Nat}

theorem NumbersSound.counter_le (h : NumbersSound numbers counter) : counter ≤ 65535 := by
  obtain ⟨-, -, -, hcounter⟩ := h
  exact hcounter

theorem NumbersSound.sublist (h : NumbersSound numbers counter) (hsub : numbers'.Sublist numbers) :
    NumbersSound numbers' counter := by
  obtain ⟨hlength, hrise, hgiven, hcounter⟩ := h
  exact ⟨hsub.length_le.trans hlength, hrise.sublist hsub, fun n hn => hgiven n (hsub.subset hn), hcounter⟩

/-- The counter may advance, or stay. -/
theorem NumbersSound.mono (h : NumbersSound numbers counter) {counter' : Nat} (hle : counter ≤ counter')
    (hmax : counter' ≤ 65535) : NumbersSound numbers counter' := by
  obtain ⟨hlength, hrise, hgiven, -⟩ := h
  refine ⟨hlength, hrise, fun n hn => ?_, hmax⟩
  obtain ⟨hone, hgiven⟩ := hgiven n hn
  exact ⟨hone, hgiven.trans hle⟩

/-- The next number is above every number given, and joins a list that has room (R80, R81). -/
theorem NumbersSound.append (h : NumbersSound numbers counter) (hroom : numbers.length < 96)
    (hadvance : counter < 65535) : NumbersSound (numbers ++ [counter + 1]) (counter + 1) := by
  obtain ⟨-, hrise, hgiven, -⟩ := h
  refine ⟨by simp; omega, List.pairwise_append.2 ⟨hrise, List.pairwise_singleton _ _, fun n hn m hm => ?_⟩,
    fun n hn => ?_, by omega⟩
  · obtain ⟨-, hle⟩ := hgiven n hn
    rw [List.mem_singleton.1 hm]
    omega
  · rcases List.mem_append.1 hn with hn | hn
    · obtain ⟨hone, hle⟩ := hgiven n hn
      omega
    · rw [List.mem_singleton.1 hn]
      omega

end Numbers

/-! #### The record that carries a number -/

section Listed

variable {before after lifts : List LiftRecord} {x x' : LiftRecord} {number : Nat}

theorem findLift_eq_none_iff : findLift lifts number = none ↔ ∀ x ∈ lifts, x.number ≠ number := by
  simp [findLift]

/-- A record found stands in the list and carries the number. -/
theorem findLift_split (h : findLift lifts number = some x) :
    ∃ before after, lifts = before ++ x :: after ∧ x.number = number := by
  obtain ⟨before, after, hsplit⟩ := List.append_of_mem (List.mem_of_find?_eq_some h)
  exact ⟨before, after, hsplit, by simpa using List.find?_some h⟩

/-- In a list whose numbers rise no other record carries a record's number. -/
theorem number_ne_of_split (h : ((before ++ x :: after).map LiftRecord.number).Pairwise (· < ·)) :
    (∀ y ∈ before, y.number ≠ x.number) ∧ ∀ y ∈ after, y.number ≠ x.number := by
  rw [List.pairwise_map, List.pairwise_append, List.pairwise_cons] at h
  obtain ⟨-, ⟨hafter, -⟩, hbefore⟩ := h
  exact ⟨fun y hy => (hbefore y hy x (List.mem_cons_self ..)).ne, fun y hy => (hafter y hy).ne'⟩

/-- The record that carries a number is the one found. -/
theorem findLift_of_split (h : ((before ++ x :: after).map LiftRecord.number).Pairwise (· < ·)) :
    findLift (before ++ x :: after) x.number = some x := by
  have hbefore : before.find? (fun r => r.number == x.number) = none := by
    simpa using (number_ne_of_split h).1
  simp [findLift, List.find?_append, hbefore]

/-- A record is replaced in its place, and every other record stands (R90, R91). -/
theorem replaceLift_of_split (h : ((before ++ x :: after).map LiftRecord.number).Pairwise (· < ·))
    (hnumber : x'.number = x.number) : replaceLift (before ++ x :: after) x' = before ++ x' :: after := by
  have hkeep {l : List LiftRecord} (hl : ∀ y ∈ l, y.number ≠ x.number) : replaceLift l x' = l :=
    (List.map_congr_left fun y hy => if_neg (hnumber ▸ hl y hy)).trans (List.map_id' l)
  obtain ⟨hbefore, hafter⟩ := number_ne_of_split h
  calc replaceLift (before ++ x :: after) x'
      = replaceLift before x' ++ (if x.number = x'.number then x' else x) :: replaceLift after x' := by
        simp [replaceLift]
    _ = before ++ x' :: after := by rw [hkeep hbefore, hkeep hafter, if_pos hnumber.symm]

end Listed

/-! #### The estimate -/

/-- One entry's totals replaced move the estimate by the change of its mass total: up for a load, down for an unload
(R79). -/
theorem tableEstimate_setTotals_mass (table : Vector TallyEntry 16) (a : Fin 16) (d : LiftDirection) (t : DirTotals) :
    tableEstimate (setTotals table a d t) =
      if d = .load then tableEstimate table + t.mass - (table[a].dir d).mass
      else tableEstimate table - t.mass + (table[a].dir d).mass := by
  rw [tableEstimate_setTotals]
  cases d <;> simp [TallyEntry.setDir, TallyEntry.balance, TallyEntry.dir] <;> omega

/-! #### A sound trip record -/

section Sound

variable {t : Trip} {before after : List LiftRecord} {x : LiftRecord}

theorem Trip.sound_iff :
    t.Sound ↔
      TableAgrees t.table t.lifts ∧ t.estimate = tableEstimate t.table ∧
        NumbersSound (t.lifts.map LiftRecord.number) t.counter := by
  have hdirections (d : LiftDirection) : d ∈ [LiftDirection.load, LiftDirection.unload] := by cases d <;> simp
  constructor
  · rintro ⟨htable, hestimate, hlength, hrise, hgiven, hcounter⟩
    exact ⟨fun a d => htable a d (hdirections d), hestimate, by simpa using hlength, hrise,
      by simpa using hgiven, hcounter⟩
  · rintro ⟨htable, hestimate, hlength, hrise, hgiven, hcounter⟩
    exact ⟨fun a d _ => htable a d, hestimate, by simpa using hlength, hrise, by simpa using hgiven, hcounter⟩

theorem Trip.Sound.numbers_rise (h : t.Sound) : (t.lifts.map LiftRecord.number).Pairwise (· < ·) := by
  obtain ⟨-, -, -, hrise, -⟩ := h
  exact hrise

theorem Trip.Sound.estimate_eq (h : t.Sound) : t.estimate = tableEstimate t.table := by
  obtain ⟨-, hestimate, -⟩ := h
  exact hestimate

/-- The entry of a listed record of a sound trip holds that record's contribution. -/
theorem Trip.Sound.entry_contribution_le (h : t.Sound) (hlifts : t.lifts = before ++ x :: after) :
    x.contribution ≤ (t.table[x.assortment].dir x.direction).mass := by
  obtain ⟨htable, -, -⟩ := Trip.sound_iff.1 h
  exact (hlifts ▸ htable).entry.contribution_le

theorem Trip.Sound.entry_fits (h : t.Sound) (a : Fin 16) (d : LiftDirection) : (t.table[a].dir d).fits = true := by
  obtain ⟨htable, -, -⟩ := Trip.sound_iff.1 h
  obtain ⟨-, -, hfits⟩ := htable a d
  exact hfits

/-- A filing keeps the trip record sound when its totals fit (R80 to R83, R85). -/
theorem Trip.Sound.filed (h : t.Sound) (d : LiftDirection) (a : Fin 16) (mass : Option Nat) (flags : LiftFlags)
    (hfits : (t.filedTotals d a mass).fits = true) : (t.filed d a mass flags).Sound := by
  obtain ⟨htable, -, hnumbers⟩ := Trip.sound_iff.1 h
  cases hl : t.listsNext with
  | true =>
    obtain ⟨hadvance, hroom⟩ := (listsNext_iff t).1 hl
    have hnumber : t.nextNumber = t.counter + 1 := if_pos hadvance
    have hjoin : t.filedTotals d a mass = (t.table[a].dir d).join (t.newRecord d a mass flags) := by
      rw [← addListed_eq_join _ rfl]
      simp [Trip.filedTotals, hl, Trip.newRecord]
    rw [hjoin] at hfits
    have hend : TableAgrees t.table (t.lifts ++ []) := by rwa [List.append_nil]
    have happended := hnumbers.append (by simpa using hroom) hadvance
    refine Trip.sound_iff.2 ⟨?_, rfl, ?_⟩
    · simp only [Trip.filed, Trip.recompute, hl, hjoin, if_true]
      exact hend.join (x := t.newRecord d a mass flags) hfits
    · simpa [Trip.filed, Trip.recompute, hl, Trip.newRecord, hnumber] using happended
  | false =>
    have hadd : t.filedTotals d a mass = (t.table[a].dir d).addUnlisted mass := by simp [Trip.filedTotals, hl]
    rw [hadd] at hfits
    have hcounter := hnumbers.counter_le
    have hnumber : t.counter ≤ t.nextNumber ∧ t.nextNumber ≤ 65535 := by
      unfold Trip.nextNumber counterMax
      split <;> omega
    obtain ⟨hle, hmax⟩ := hnumber
    refine Trip.sound_iff.2 ⟨?_, rfl, ?_⟩
    · simpa [Trip.filed, Trip.recompute, hl, hadd] using htable.addUnlisted hfits
    · simpa [Trip.filed, Trip.recompute, hl] using hnumbers.mono hle hmax

/-- An undo takes the newest record and its contributions off (R89). -/
theorem Trip.Sound.undo (h : t.Sound) (hlifts : t.lifts = before ++ [x]) : (t.undo x).Sound := by
  obtain ⟨htable, -, hnumbers⟩ := Trip.sound_iff.1 h
  have hbefore : t.lifts.dropLast = before := by simp [hlifts]
  refine Trip.sound_iff.2 ⟨?_, rfl, hnumbers.sublist ((List.dropLast_sublist _).map _)⟩
  have hleft := (hlifts ▸ htable : TableAgrees t.table (before ++ [x])).leave
  rwa [List.append_nil, ← hbefore] at hleft

/-- A record replaced by one of the same number keeps the numbers. -/
theorem Trip.Sound.replaceLift_eq (h : t.Sound) (hlifts : t.lifts = before ++ x :: after) {x' : LiftRecord}
    (hnumber : x'.number = x.number) : replaceLift t.lifts x' = before ++ x' :: after := by
  rw [hlifts]
  exact replaceLift_of_split (hlifts ▸ h.numbers_rise) hnumber

theorem numbers_of_split (hlifts : t.lifts = before ++ x :: after) {x' : LiftRecord} (hnumber : x'.number = x.number) :
    (before ++ x' :: after).map LiftRecord.number = t.lifts.map LiftRecord.number := by
  simp [hlifts, hnumber]

/-- A correction keeps the trip record sound when its total fits (R85, R90). -/
theorem Trip.Sound.corrected (h : t.Sound) (hlifts : t.lifts = before ++ x :: after) {x' : LiftRecord}
    (hnumber : x'.number = x.number) (hassortment : x'.assortment = x.assortment)
    (hdirection : x'.direction = x.direction)
    (hfits : ((t.table[x.assortment].dir x.direction).correct x.contribution x'.contribution).fits = true) :
    (t.corrected x x').Sound := by
  obtain ⟨htable, -, hnumbers⟩ := Trip.sound_iff.1 h
  refine Trip.sound_iff.2 ⟨?_, rfl, ?_⟩ <;> simp only [Trip.corrected, Trip.recompute, h.replaceLift_eq hlifts hnumber]
  · exact (hlifts ▸ htable : TableAgrees t.table (before ++ x :: after)).correct hassortment hdirection hfits
  · rwa [numbers_of_split hlifts hnumber]

/-- The entry a record moves to is not touched by its leaving (R91). -/
theorem movedTable_eq (t : Trip) {x : LiftRecord} {a : Fin 16} (ha : a ≠ x.assortment) :
    t.movedTable x a =
      setTotals
        (setTotals t.table x.assortment x.direction ((t.table[x.assortment].dir x.direction).leave x))
        a x.direction ((t.table[a].dir x.direction).join x) := by
  rw [Trip.movedTable, setTotals_dir_other _ _ (.inl ha)]

/-- A reassignment moves a mass from one entry to another, so that the estimate stands (R79, R91). -/
theorem movedTable_estimate (h : t.Sound) (hlifts : t.lifts = before ++ x :: after) {a : Fin 16}
    (ha : a ≠ x.assortment) : tableEstimate (t.movedTable x a) = tableEstimate t.table := by
  have hle := h.entry_contribution_le hlifts
  rw [movedTable_eq t ha, tableEstimate_setTotals_mass, tableEstimate_setTotals_mass, setTotals_dir_other _ _ (.inl ha)]
  simp only [DirTotals.leave, DirTotals.join]
  split <;> omega

/-- A reassignment keeps the trip record sound when the totals of the new entry fit (R85, R91). -/
theorem Trip.Sound.reassigned (h : t.Sound) (hlifts : t.lifts = before ++ x :: after) {a : Fin 16}
    (ha : a ≠ x.assortment) (hfits : ((t.table[a].dir x.direction).join x).fits = true) :
    (t.reassigned x a).Sound := by
  obtain ⟨htable, hestimate, hnumbers⟩ := Trip.sound_iff.1 h
  have hreplaced := h.replaceLift_eq hlifts (x' := { x with assortment := a }) rfl
  refine Trip.sound_iff.2 ⟨?_, hestimate.trans (movedTable_estimate h hlifts ha).symm, ?_⟩
  · have hleft := (hlifts ▸ htable : TableAgrees t.table (before ++ x :: after)).leave
    simp only [Trip.reassigned, hreplaced]
    refine hleft.join (x := { x with assortment := a }) ?_
    rw [setTotals_dir_other _ _ (.inl ha)]
    exact hfits
  · simp only [Trip.reassigned, hreplaced]
    rwa [numbers_of_split hlifts (x' := { x with assortment := a }) rfl]

end Sound

end Sys2Proof.Machine
end

section
/-! ### The trip record, kept sound by every step -/

namespace Sys2Proof.Machine

open Sys2Proof

/-! #### What the engine leaves of the trip record when it files nothing -/

section Engine

variable (s : State)

@[simp] theorem endUnweighed_lt (reason : EndReason) : (endUnweighed reason s).lt = s.lt := rfl

@[simp] theorem engineSample_lt (x : Sample) : (engineSample x s).lt = s.lt := by
  rw [engineSample_frame]
  rfl

@[simp] theorem triggerArmed_lt : (triggerArmed s).lt = s.lt := by
  rw [triggerArmed_frame]
  rfl

@[simp] theorem liftConditions_lt : (liftConditions s).lt = s.lt := by
  unfold liftConditions
  split <;> simp

@[simp] theorem closureEvent_lt : (closureEvent s).lt = s.lt := by simp [closureEvent]

@[simp] theorem closureTest_lt : (closureTest s).lt = s.lt := by
  unfold closureTest
  split <;> split <;> simp

theorem suspendExpired_lt : (suspendExpired s).lt = s.lt := by simp [suspendExpired]

end Engine

/-! #### What the weigh link leaves of the trip record -/

section Link

variable (s : State)

@[simp] theorem linkLeft_lt : (linkLeft s).lt = s.lt := by simp [linkLeft, engineLinkLeft]

@[simp] theorem enterFailed_lt (cause : LinkCause) : (enterFailed cause s).lt = s.lt := by simp [enterFailed]

@[simp] theorem lineChanged_lt (level : Bool) : (lineChanged level s).lt = s.lt := by simp [lineChanged]

theorem debounceExpired_lt : (debounceExpired s).lt = s.lt := by
  simp [debounceExpired, becameAbsent, enterAbsent, becamePresent, powerOn]

theorem powerOffTimeExpired_lt : (powerOffTimeExpired s).lt = s.lt := by
  unfold powerOffTimeExpired
  split <;> simp

theorem linkSettleExpired_lt : (linkSettleExpired s).lt = s.lt := by
  unfold linkSettleExpired
  split <;> simp [enterIdentifying]

@[simp] theorem identityValid_lt (head : HeadIdentity) : (identityValid head s).lt = s.lt := by
  simp [identityValid, enterRunning, makePoll]

@[simp] theorem identityFailed_lt (began : Nat) : (identityFailed began s).lt = s.lt := by simp [identityFailed]

theorem identityReadEnded_lt (answer : Option IdentityAnswer) : (identityReadEnded answer s).lt = s.lt := by
  unfold identityReadEnded
  split
  · split <;> simp
  · rfl

theorem identityRetried_lt : (identityRetried s).lt = s.lt := by
  unfold identityRetried
  split <;> simp

theorem pollMade_lt : (pollMade s).lt = s.lt := by
  unfold pollMade
  split <;> simp [makePoll]

@[simp] theorem pollCompleted_lt (head : HeadIdentity) (number began : Nat) (o : PollOutcome) :
    (pollCompleted head number began o s).lt = s.lt := by
  have htaken : (sampleTaken head number began o s).lt = s.lt := by
    obtain ⟨-, hlt⟩ := tareSample_masses head o
      (engineSample (publishedSample number began o s) (publishSample number began o s))
    exact hlt.trans (engineSample_lt _ _)
  rw [pollCompleted_eq]
  simp [recoveryDecision, enterRecovering, htaken]

theorem pollEnded_lt (answer : Option SampleAnswer) : (pollEnded answer s).lt = s.lt := by
  unfold pollEnded
  split
  · split <;> simp
  · rfl

theorem linesRead_lt (clock data : Bool) : (linesRead clock data s).lt = s.lt := by
  unfold linesRead
  split <;> simp [enterIdentifying, sendPulse]

theorem pulseEnded_lt (data : Bool) : (pulseEnded data s).lt = s.lt := by
  unfold pulseEnded
  split <;> simp [enterIdentifying, sendPulse]

theorem armOwner_lt (u : Unit) : (armOwner u s).state.lt = s.lt := by
  unfold armOwner
  split <;> simp [armGripped]

theorem disarmOwner_lt (u : Unit) : (disarmOwner u s).state.lt = s.lt := by
  unfold disarmOwner
  split <;> simp

theorem linkResetOwner_lt (u : Unit) : (linkResetOwner u s).state.lt = s.lt := by simp [linkResetOwner, resetLink]

theorem calibrateOwner_lt (r : CalibrateRequest) : (calibrateOwner r s).state.lt = s.lt := by simp [calibrateOwner]

theorem tareOwner_lt (u : Unit) : (tareOwner u s).state.lt = s.lt := by simp [tareOwner]

theorem payloadLimitOwner_lt (r : Option Nat) : (payloadLimitOwner r s).state.lt = s.lt := by
  unfold payloadLimitOwner
  split <;> simp

end Link

/-! #### The events that file a lift -/

section Filing

variable {s : State}

/-- A filing that is turned away changes nothing; one that is not keeps the trip record sound (R85). -/
theorem fileLift_tripSound (d : LiftDirection) (a : Fin 16) (mass : Option Nat) (flags : LiftFlags)
    (h : s.lt.Sound) : (fileLift d a mass flags s).1.lt.Sound := by
  unfold fileLift
  split
  · rename_i hfits
    simpa using h.filed d a mass flags hfits
  · exact h

theorem closeGrip_tripSound (h : s.lt.Sound) : (closeGrip s).lt.Sound := by
  have hover : (handOver s.wce.originOf s.evm.bunk s).1.lt.Sound := by
    unfold handOver
    split
    · exact fileLift_tripSound _ _ _ _ h
    · exact h
  exact hover

theorem releaseEvent_tripSound (h : s.lt.Sound) : (releaseEvent s).lt.Sound := by
  unfold releaseEvent
  split
  case h_1 => exact h
  case h_5 | h_6 => exact closeGrip_tripSound (s := endUnweighed .released s) h
  all_goals exact closeGrip_tripSound h

theorem releaseTest_tripSound (h : s.lt.Sound) : (releaseTest s).lt.Sound := by
  unfold releaseTest
  dsimp only
  split
  · exact releaseEvent_tripSound h
  · exact h

theorem demandEvent_tripSound (h : s.lt.Sound) : (demandEvent s).lt.Sound := by
  have hclosed : (closureTest s).lt.Sound := (closureTest_lt s).symm ▸ h
  simpa only [demandEvent, liftConditions_lt] using releaseTest_tripSound hclosed

theorem demandExpired_tripSound (v : ValveSection) (h : s.lt.Sound) : (demandExpired v s).lt.Sound := by
  unfold demandExpired
  dsimp only
  split
  · exact demandEvent_tripSound h
  · exact h

theorem driveOwner_tripSound (s : State) (r : DriveRequest) (h : s.lt.Sound) : (driveOwner r s).state.lt.Sound := by
  unfold driveOwner
  split
  · exact h
  · have hevent : (demandEvent (driveHeld r s)).lt.Sound := demandEvent_tripSound (s := driveHeld r s) h
    simpa [driveTaken] using hevent

theorem manualLiftOwner_tripSound (s : State) (r : ManualRequest) (h : s.lt.Sound) :
    (manualLiftOwner r s).state.lt.Sound := by
  unfold manualLiftOwner
  split
  · rename_i a _ _
    have hfiled := fileLift_tripSound r.direction a r.mass manualFlags h
    split
    · rename_i s1 ans e
      rwa [e] at hfiled
    · exact h
  · exact h

end Filing

/-! #### The other requests of the tally, and the restart -/

section Requests

variable {s : State}

theorem assortmentOwner_tripSound (s : State) (r : Option Nat) (h : s.lt.Sound) :
    (assortmentOwner r s).state.lt.Sound := by
  unfold assortmentOwner
  split
  · exact h
  · split <;> exact h

theorem undoLastOwner_tripSound (s : State) (u : Unit) (h : s.lt.Sound) : (undoLastOwner u s).state.lt.Sound := by
  unfold undoLastOwner
  split
  · exact h
  · rename_i x hx
    obtain ⟨others, hlifts⟩ := List.getLast?_eq_some_iff.1 hx
    split
    · exact h
    · simpa using h.undo hlifts

theorem correctOwner_tripSound (s : State) (r : CorrectRequest) (h : s.lt.Sound) :
    (correctOwner r s).state.lt.Sound := by
  unfold correctOwner
  split
  · exact h
  · split
    · exact h
    · rename_i x hx
      obtain ⟨before, after, hlifts, -⟩ := findLift_split hx
      dsimp only
      split
      · exact h
      · split
        · exact h
        · rename_i hfits
          have hcorrected := h.corrected hlifts (x' := { x with correction := some r.correction }) rfl rfl rfl
            (by simpa using hfits)
          simpa using hcorrected

theorem reassignOwner_tripSound (s : State) (r : ReassignRequest) (h : s.lt.Sound) :
    (reassignOwner r s).state.lt.Sound := by
  unfold reassignOwner
  split
  · split
    · exact h
    · rename_i x hx
      obtain ⟨before, after, hlifts, -⟩ := findLift_split hx
      split
      · exact h
      · rename_i hne
        split
        · exact h
        · rename_i hfits
          exact h.reassigned hlifts (Ne.symm hne) (by simpa using hfits)
  · exact h

/-- The trip record a Trip close leaves is as empty as a new one (R94, R99). -/
theorem tripCloseOwner_tripSound (s : State) (u : Unit) (_ : s.lt.Sound) : (tripCloseOwner u s).state.lt.Sound :=
  coldTrip_sound

/-- A WARM restart keeps the trip record, a COLD one empties it (R99). -/
theorem restartTaken_tripSound (h : s.lt.Sound) : (restartTaken s).lt.Sound := by
  have hset (asked : Option RestartKind) (s : State) (h : s.lt.Sound) : (restarted asked s).lt.Sound := by
    simp only [restarted, latchIf_lt, restartBlocks]
    split
    · exact h
    · exact coldTrip_sound
  unfold restartTaken
  split
  · split
    · split
      · exact hset _ _ h
      · exact h
    · exact h
  · exact hset _ _ h

end Requests

/-! #### Every command -/

section Commands

variable {dt : Nat} {s t : State}

theorem onSupply_tripSound {act : State → State} (hact : ∀ s, s.lt.Sound → (act s).lt.Sound) (h : s.lt.Sound)
    (e : onSupply dt s act = .next t) : t.lt.Sound :=
  onSupply_keeps (P := fun s => s.lt.Sound) (fun _ _ h => h) hact h e

theorem execRequest_tripSound {α : Type} {kind : Byte} {reader : Reader α} {owner : α → State → Answer}
    (howner : ∀ s x, s.lt.Sound → (owner x s).state.lt.Sound) (h : s.lt.Sound)
    (e : execRequest dt kind reader owner s = .next t) : t.lt.Sound :=
  execRequest_keeps (P := fun s => s.lt.Sound) (fun _ _ h => h) (fun _ _ h => h) howner h e

/-- An event that leaves the trip record alone keeps it sound. -/
theorem onSupply_tripSound_of_lt {act : State → State} (hlt : ∀ s, (act s).lt = s.lt) (h : s.lt.Sound)
    (e : onSupply dt s act = .next t) : t.lt.Sound :=
  onSupply_tripSound (fun s hs => (hlt s).symm ▸ hs) h e

/-- A request whose owner leaves the trip record alone keeps it sound. -/
theorem execRequest_tripSound_of_lt {α : Type} {kind : Byte} {reader : Reader α} {owner : α → State → Answer}
    (hlt : ∀ s x, (owner x s).state.lt = s.lt) (h : s.lt.Sound)
    (e : execRequest dt kind reader owner s = .next t) : t.lt.Sound :=
  execRequest_tripSound (fun s x hs => (hlt s x).symm ▸ hs) h e

theorem exec_tripSound {c : Instr} (h : s.lt.Sound) (e : exec c s = .next t) : t.lt.Sound := by
  cases c with
  | demandExpiry => exact onSupply_tripSound (fun _ => demandExpired_tripSound _) h e
  | restart dt => exact Host.Outcome.next.inj e ▸ restartTaken_tripSound (s := s.tick dt) h
  | drive => exact execRequest_tripSound driveOwner_tripSound h e
  | assortment => exact execRequest_tripSound assortmentOwner_tripSound h e
  | undoLast => exact execRequest_tripSound undoLastOwner_tripSound h e
  | correct => exact execRequest_tripSound correctOwner_tripSound h e
  | reassign => exact execRequest_tripSound reassignOwner_tripSound h e
  | manualLift => exact execRequest_tripSound manualLiftOwner_tripSound h e
  | tripClose => exact execRequest_tripSound tripCloseOwner_tripSound h e
  | detectLineChange dt level =>
    rw [← Host.Outcome.next.inj e]
    split
    · exact (lineChanged_lt (s.tick dt) level).symm ▸ h
    · exact h
  | debounceExpiry => exact onSupply_tripSound_of_lt debounceExpired_lt h e
  | powerOffTimeExpiry => exact onSupply_tripSound_of_lt powerOffTimeExpired_lt h e
  | linkSettleExpiry => exact onSupply_tripSound_of_lt linkSettleExpired_lt h e
  | identityReadEnd => exact onSupply_tripSound_of_lt (identityReadEnded_lt · _) h e
  | identityRetry => exact onSupply_tripSound_of_lt identityRetried_lt h e
  | poll => exact onSupply_tripSound_of_lt pollMade_lt h e
  | pollCompletion => exact onSupply_tripSound_of_lt (pollEnded_lt · _) h e
  | recoveryLineRead => exact onSupply_tripSound_of_lt (linesRead_lt · _ _) h e
  | clockPulseEnd => exact onSupply_tripSound_of_lt (pulseEnded_lt · _) h e
  | suspendTimerExpiry => exact onSupply_tripSound_of_lt suspendExpired_lt h e
  | scan => exact onSupply_tripSound_of_lt (scanned_lt · _) h e
  | drivePeriod => exact onSupply_tripSound_of_lt (drivePeriodTaken_lt · _) h e
  | driverTrip => exact onSupply_tripSound_of_lt (driverTripped_lt · _) h e
  | supplySettleExpiry => exact onSupply_tripSound_of_lt supplySettleExpired_lt h e
  | idleTimerExpiry => exact onSupply_tripSound_of_lt idleTimerExpired_lt h e
  | byteReceived => exact onSupply_tripSound_of_lt (act := byteTaken _ _) (fun _ => rfl) h e
  | gapExpiry => exact onSupply_tripSound_of_lt gapExpired_lt h e
  | frameSent => exact onSupply_tripSound_of_lt frameSent_lt h e
  | unknownKind => exact onSupply_tripSound_of_lt unknownTaken_lt h e
  | storeWriteCompletion => exact onSupply_tripSound_of_lt (storeCompleted_lt · _) h e
  | mainSupplyLoss => exact Host.Outcome.next.inj e ▸ h
  | standbySupplyLoss => exact Host.Outcome.next.inj e ▸ h
  | standbySupplyReturn => exact Host.Outcome.next.inj e ▸ h
  | status => exact execRequest_tripSound_of_lt statusOwner_lt h e
  | readChanges => exact execRequest_tripSound_of_lt readChangesOwner_lt h e
  | clearChanges => exact execRequest_tripSound_of_lt (owner := clearChangesOwner) (fun _ _ => rfl) h e
  | changeConfig => exact execRequest_tripSound_of_lt (owner := changeConfigOwner) (fun _ _ => rfl) h e
  | sectionConfig => exact execRequest_tripSound_of_lt sectionConfigOwner_lt h e
  | profileWrite => exact execRequest_tripSound_of_lt profileOwner_lt h e
  | release => exact execRequest_tripSound_of_lt releaseOwner_lt h e
  | faultClear => exact execRequest_tripSound_of_lt faultClearOwner_lt h e
  | arm => exact execRequest_tripSound_of_lt armOwner_lt h e
  | disarm => exact execRequest_tripSound_of_lt disarmOwner_lt h e
  | captureConfig => exact execRequest_tripSound_of_lt captureOwner_lt h e
  | readLifts => exact execRequest_tripSound_of_lt readLiftsOwner_lt h e
  | readTotals => exact execRequest_tripSound_of_lt readTotalsOwner_lt h e
  | payloadLimit => exact execRequest_tripSound_of_lt payloadLimitOwner_lt h e
  | zoneWrite => exact execRequest_tripSound_of_lt zoneWriteOwner_lt h e
  | zoneEnable => exact execRequest_tripSound_of_lt zoneEnableOwner_lt h e
  | zoneRead => exact execRequest_tripSound_of_lt zoneReadOwner_lt h e
  | limiterConfig => exact execRequest_tripSound_of_lt limiterOwner_lt h e
  | ratedWrite => exact execRequest_tripSound_of_lt ratedOwner_lt h e
  | linkStatus => exact execRequest_tripSound_of_lt (owner := linkStatusOwner) (fun _ _ => rfl) h e
  | linkReset => exact execRequest_tripSound_of_lt linkResetOwner_lt h e
  | calibrate => exact execRequest_tripSound_of_lt calibrateOwner_lt h e
  | tare => exact execRequest_tripSound_of_lt tareOwner_lt h e
  | channelCalibration => exact execRequest_tripSound_of_lt channelOwner_lt h e
  | geometryConfig => exact execRequest_tripSound_of_lt geometryOwner_lt h e
  | storeSettings => exact execRequest_tripSound_of_lt storeOwner_lt h e
  | restartRequest => exact execRequest_tripSound_of_lt (owner := restartOwner) (fun _ _ => rfl) h e

end Commands

/-- Settles O5: a filing, an undo, a correction and a reassignment move the totals of an entry with its listed records,
a Trip close and a COLD restart empty both, and no other command touches the trip record's totals, list or estimate. -/
theorem stepKeepsTally : Obligations.StepKeepsTally := fun _ _ h hstep =>
  step_keeps (P := fun s => s.lt.Sound) (fun _ _ h => h) (fun _ _ _ => exec_tripSound) h hstep

end Sys2Proof.Machine
end

section
/-! ### Replies of the requests that move the tally, with the payload test -/

namespace Sys2Proof.Machine

open Sys2Proof

/-! #### The payload state and its test -/

theorem payload_full_iff (s : State) : s.payload = .full ↔ (s.settings.payloadLimit : Int) ≤ s.lt.estimate := by
  unfold State.payload payloadStateOf
  split
  · simp_all
  · split <;> simp_all

theorem payload_normal_iff (s : State) :
    s.payload = .normal ↔
      s.lt.estimate < (s.settings.payloadLimit : Int) ∧ s.lt.estimate < (s.settings.payloadLimit * 95 / 100 : Nat) := by
  unfold State.payload payloadStateOf warnLevelOf
  split
  · simp
    omega
  · split
    · simp
      omega
    · simp
      omega

/-- The latches of a payload test, by the rise (R84). -/
theorem payloadTest_eq (before : PayloadState) (s : State) :
    payloadTest before s =
      if before = .normal ∧ s.payload = .warn then latch .payloadWarn s
      else if before = .normal ∧ s.payload = .full then latch .payloadFull (latch .payloadWarn s)
      else if before = .warn ∧ s.payload = .full then latch .payloadFull s
      else s := by
  cases before with
  | full => cases hafter : s.payload <;> simp only [payloadTest, hafter] <;> rfl
  | warn => cases hafter : s.payload <;> simp only [payloadTest, hafter] <;> rfl
  | normal => cases hafter : s.payload <;> simp only [payloadTest, hafter] <;> rfl

@[simp] theorem payloadTest_settings (before : PayloadState) (s : State) :
    (payloadTest before s).settings = s.settings := by simp [payloadTest]

/-- The fields of a Payload limit reply do not depend on the latches of the test. -/
theorem payloadTest_payloadReply (before : PayloadState) (s : State) :
    (payloadTest before s).payloadReply = s.payloadReply := by
  simp [State.payloadReply, State.payload]

/-! #### The reply in its place -/

section PutOut

variable {s : State} {place : Nat} (f : OutFrame) (h : place < s.clp.outbound.length)

include h

theorem latchIf_putOut (b : Bool) (src : ChangeSource) :
    latchIf b src (s.putOut place f) = (latchIf b src s).putOut place f := by
  cases b
  · rfl
  · exact latch_putOut f h src

/-- The reports of a payload test stand behind a frame that waits (R183). -/
theorem payloadTest_putOut (before : PayloadState) :
    payloadTest before (s.putOut place f) = (payloadTest before s).putOut place f := by
  have hplace (b : Bool) : place < (latchIf b .payloadWarn s).clp.outbound.length := by
    cases b with
    | false => exact h
    | true =>
      obtain ⟨more, hmore⟩ := latch_prefix .payloadWarn s
      rw [latchIf_true, hmore, List.length_append]
      omega
  simp only [payloadTest]
  rw [latchIf_putOut f h, latchIf_putOut f (hplace _)]
  rfl

end PutOut

@[simp] theorem takenState_lt (dt : Nat) (f : InFrame) (rest : List InFrame) (s : State) :
    (takenState dt f rest s).lt = s.lt := rfl

theorem outbound_lt_takenState (dt : Nat) (f : InFrame) (rest : List InFrame) (s : State) :
    s.clp.outbound.length < (takenState dt f rest s).clp.outbound.length := by
  simp [takenState, takeFrame]

section Replies

variable (dt : Nat) (kind tag : Byte) (fields : List Byte) (rest : List InFrame) (s : State)

/-- An answer that replaces the trip record and nothing else. -/
theorem putReply_setLt (t : Trip) (body : ReplyBody) :
    putReply s.clp.outbound.length { kind := kind, tag := tag, fields := fields }
        (answerDone ((takenState dt { kind := kind, tag := tag, fields := fields } rest s).setLt t) body) =
      (s.replied dt rest kind tag .done body).setLt t :=
  congrArg (State.setLt · t) (takenState_putOut dt kind tag fields rest s .done body)

/-- A payload test stands behind its reply, and finds what it would find without it (R84, R183). -/
theorem putReply_payloadTest {u : State} (h : s.clp.outbound.length < u.clp.outbound.length) (before : PayloadState)
    (body : ReplyBody) :
    putReply s.clp.outbound.length { kind := kind, tag := tag, fields := fields }
        (answerDone (payloadTest before u) body) =
      payloadTest before (u.putOut s.clp.outbound.length (.reply kind tag .done body)) :=
  (payloadTest_putOut _ h before).symm

/-- An answer that replaces the trip record and tests the payload levels. -/
theorem putReply_setLt_payloadTest (t : Trip) (before : PayloadState) (body : ReplyBody) :
    putReply s.clp.outbound.length { kind := kind, tag := tag, fields := fields }
        (answerDone
          (payloadTest before ((takenState dt { kind := kind, tag := tag, fields := fields } rest s).setLt t)) body) =
      payloadTest before ((s.replied dt rest kind tag .done body).setLt t) :=
  (putReply_payloadTest kind tag fields s
    (u := (takenState dt { kind := kind, tag := tag, fields := fields } rest s).setLt t)
    (outbound_lt_takenState _ _ _ _) before body).trans
    (congrArg (fun u => payloadTest before (State.setLt u t)) (takenState_putOut dt kind tag fields rest s .done body))

end Replies

/-! #### Numbers that decode -/

theorem decodeAll_eq_some {α : Type} {reader : Reader α} {fields : List Byte} {x : α}
    (h : decodeAll reader fields = some x) : reader fields = some (x, []) := by
  unfold decodeAll at h
  split at h
  · rename_i y hy
    cases h
    exact hy
  · cases h

theorem readU16_le {bytes rest : List Byte} {n : Nat} (h : readU16 bytes = some (n, rest)) : n ≤ 65535 := by
  unfold readU16 at h
  split at h
  · rename_i a b tail
    cases h
    have ha := a.isLt
    have hb := b.isLt
    simp only [natOfBytes, List.foldl_cons, List.foldl_nil]
    omega
  · cases h

theorem readCorrect_number_le {fields : List Byte} {r : CorrectRequest} (h : decodeAll readCorrect fields = some r) :
    r.number ≤ 65535 := by
  obtain ⟨number, mid, hnumber, htail⟩ := reader_bind_eq_some (decodeAll_eq_some h)
  obtain ⟨correction, mid', -, hpure⟩ := reader_bind_eq_some htail
  cases hpure
  exact readU16_le hnumber

theorem readReassign_number_le {fields : List Byte} {r : ReassignRequest}
    (h : decodeAll readReassign fields = some r) : r.number ≤ 65535 := by
  obtain ⟨number, mid, hnumber, htail⟩ := reader_bind_eq_some (decodeAll_eq_some h)
  obtain ⟨assortment, mid', -, hpure⟩ := reader_bind_eq_some htail
  cases hpure
  exact readU16_le hnumber

end Sys2Proof.Machine
end

section
/-! ### The reads of the tally -/

namespace Sys2Proof.Machine

open Sys2Proof

/-! #### The owners, by what the request asks for -/

section Owners

variable (s : State)

theorem assortmentOwner_of_bad {n : Nat} (h : 15 < n) : assortmentOwner (some n) s = refuse .badField s := by
  simp [assortmentOwner, finOf_of_le (n := 16) h]

/-- A write replaces the current assortment; a read answers it, and leaves it (R87). -/
theorem assortmentOwner_of_good {r : Option Nat} {a : Fin 16}
    (h : r = some a.val ∨ (r = none ∧ a = s.lt.assortment)) :
    assortmentOwner r s = answerDone (s.setLt { s.lt with assortment := a }) (.assortment a) := by
  rcases h with rfl | ⟨rfl, rfl⟩
  · simp [assortmentOwner]
  · rfl

theorem readLiftsOwner_of_bad {r : ReadLiftsRequest} (h : r.count = 0 ∨ 8 < r.count) :
    readLiftsOwner r s = refuse .badField s := by
  have hrange : inRange 1 8 r.count = false := by
    rw [Bool.eq_false_iff, Ne, inRange_iff]
    omega
  simp [readLiftsOwner, hrange]

theorem readLiftsOwner_of_good {r : ReadLiftsRequest} (h : 1 ≤ r.count ∧ r.count ≤ 8) :
    readLiftsOwner r s =
      answerDone s
        (.lifts ((recordsFrom s.lt.lifts r.from_).take r.count)
          (decide (r.count < (recordsFrom s.lt.lifts r.from_).length)) s.lt.lifts.length s.lt.counter) := by
  simp [readLiftsOwner, (inRange_iff 1 8 r.count).2 h]

theorem readTotalsOwner_of_bad {r : ReadTotalsRequest}
    (h : r.count = 0 ∨ 2 < r.count ∨ 15 < r.first ∨ 16 < r.first + r.count) :
    readTotalsOwner r s = refuse .badField s := by
  refine if_pos ?_
  simp only [Bool.or_eq_true, Bool.not_eq_true', decide_eq_true_eq, ← Bool.not_eq_true, inRange_iff]
  omega

section Good

variable {s} {r : ReadTotalsRequest} (h : 1 ≤ r.count ∧ r.count ≤ 2) (hend : r.first + r.count ≤ 16)

include h hend

theorem readTotals_inRange : ¬(!inRange 1 2 r.count || 15 < r.first || 16 < r.first + r.count) = true := by
  simp only [(inRange_iff 1 2 r.count).2 h, Bool.not_true, Bool.false_or, Bool.or_eq_true, decide_eq_true_eq]
  omega

theorem readTotalsOwner_current (hr : r.selector = .current) :
    readTotalsOwner r s =
      answerDone s (.totals (entriesFrom s.lt.table r.first r.count) (.current s.currentFigures)) := by
  rw [readTotalsOwner, if_neg (readTotals_inRange h hend), hr]

theorem readTotalsOwner_no_trip (hr : r.selector = .closed) (hc : s.lt.closed = none) :
    readTotalsOwner r s = refuse .empty s := by
  rw [readTotalsOwner, if_neg (readTotals_inRange h hend), hr, hc]

theorem readTotalsOwner_closed {c : ClosedTrip} (hr : r.selector = .closed) (hc : s.lt.closed = some c) :
    readTotalsOwner r s =
      answerDone s (.totals (entriesFrom c.table r.first r.count) (.closed c.figures)) := by
  rw [readTotalsOwner, if_neg (readTotals_inRange h hend), hr, hc]

end Good

end Owners

/-! #### What is read -/

/-- The first `count` of a list and the others: there are others only behind a full answer, and exactly when the list is
longer (R92). -/
theorem take_drop_spec {α : Type} (l : List α) (count : Nat) :
    (l.drop count ≠ [] → (l.take count).length = count) ∧
      (decide (count < l.length) = true ↔ l.drop count ≠ []) := by
  simp only [ne_eq, List.drop_eq_nil_iff, not_le, List.length_take, decide_eq_true_eq, iff_self, and_true]
  omega

/-- `count` entries from `first` upward (R93). -/
theorem entriesFrom_spec (table : Vector TallyEntry 16) {first count : Nat} (h : first + count ≤ 16) :
    (entriesFrom table first count).length = count ∧
      ∀ (k : Nat) (a : Fin 16), k < count → a.val = first + k →
        (entriesFrom table first count)[k]? = some table[a] := by
  refine ⟨?_, fun k a hk ha => ?_⟩
  · simp [entriesFrom]
    omega
  · simp [entriesFrom, hk, ← ha]

/-- Settles O45, a request at a time. -/
theorem tallyReadsAnswer : Obligations.TallyReadsAnswer := by
  intro s dt tag fields rest
  refine ⟨fun r h hr => ⟨?_, fun a ha => ?_⟩, fun r h hr => ⟨fun hbad => ?_, fun hone height => ?_⟩,
    fun r h hr => ⟨fun hbad => ?_, fun hone htwo hend => ⟨fun hcurrent => ?_, fun hclosed hnone => ?_,
      fun c hclosed hsome => ?_⟩⟩⟩
  · rintro n rfl hn
    refine (asked_decoded assortmentOwner h hr).trans ?_
    rw [assortmentOwner_of_bad _ hn, putReply_refuse]
  · refine (asked_decoded assortmentOwner h hr).trans ?_
    rw [assortmentOwner_of_good (takenState dt ⟨0x30#8, tag, fields⟩ rest s) ha, putReply_setLt]
    rfl
  · refine (asked_decoded readLiftsOwner h hr).trans ?_
    rw [readLiftsOwner_of_bad _ hbad, putReply_refuse]
  · obtain ⟨hfull, hmore⟩ := take_drop_spec (recordsFrom s.lt.lifts r.from_) r.count
    refine ⟨_, _, _, List.take_append_drop r.count _, List.length_take_le _ _, hfull, hmore, ?_⟩
    refine (asked_decoded readLiftsOwner h hr).trans ?_
    rw [readLiftsOwner_of_good _ ⟨hone, height⟩]
    exact congrArg _ (putReply_same ..)
  · refine (asked_decoded readTotalsOwner h hr).trans ?_
    rw [readTotalsOwner_of_bad _ hbad, putReply_refuse]
  · obtain ⟨hlength, hentries⟩ := entriesFrom_spec s.lt.table hend
    refine ⟨_, hlength, hentries, (asked_decoded readTotalsOwner h hr).trans ?_⟩
    rw [readTotalsOwner_current ⟨hone, htwo⟩ hend hcurrent]
    exact congrArg _ (putReply_same ..)
  · refine (asked_decoded readTotalsOwner h hr).trans ?_
    rw [readTotalsOwner_no_trip (s := takenState dt ⟨0x32#8, tag, fields⟩ rest s) ⟨hone, htwo⟩ hend hclosed hnone,
      putReply_refuse]
  · obtain ⟨hlength, hentries⟩ := entriesFrom_spec c.table hend
    refine ⟨_, hlength, hentries, (asked_decoded readTotalsOwner h hr).trans ?_⟩
    rw [readTotalsOwner_closed (s := takenState dt ⟨0x32#8, tag, fields⟩ rest s) ⟨hone, htwo⟩ hend hclosed hsome]
    exact congrArg _ (putReply_same ..)

end Sys2Proof.Machine
end

section
/-! ### Undo last, Correct and Reassign -/

namespace Sys2Proof.Machine

open Sys2Proof

/-! #### The totals and the trip record after each request -/

theorem weighedCount_eq (mass : Option Nat) : weighedCount mass = if mass = none then 0 else 1 := by
  cases mass <;> rfl

theorem contribution_of_mass {x : LiftRecord} {m c : Nat} (hm : x.mass = some m)
    (hc : (c : Int) = max 0 ((m : Int) + x.correction.getD 0)) : x.contribution = c := by
  simp only [LiftRecord.contribution, LiftRecord.effective, effectiveOf, hm, Option.map_some, Option.getD_some]
  omega

/-- Of totals that fit, a correction can overrun the mass total alone (R85, R90). -/
theorem correct_fits_iff {t : DirTotals} (h : t.fits = true) (old new : Nat) :
    (t.correct old new).fits = true ↔ t.mass + new - old ≤ 4294967295 := by
  simp only [fits_iff, List.forall_mem_cons] at h
  obtain ⟨hcount, hweighed, -, hunlisted, hunlistedMass, -⟩ := h
  simp [fits_iff, DirTotals.correct, hcount, hweighed, hunlisted, hunlistedMass]

/-- Of totals that fit, a record that joins can overrun the count, the weighed count and the mass total (R85, R91). -/
theorem join_fits_iff {t : DirTotals} (h : t.fits = true) (x : LiftRecord) :
    (t.join x).fits = true ↔
      (t.join x).count ≤ 4294967295 ∧ (t.join x).weighed ≤ 4294967295 ∧ (t.join x).mass ≤ 4294967295 := by
  simp only [fits_iff, List.forall_mem_cons] at h
  obtain ⟨-, -, -, hunlisted, hunlistedMass, -⟩ := h
  simp [fits_iff, DirTotals.join, hunlisted, hunlistedMass]

section Trips

variable {t : Trip} {before after : List LiftRecord} {x x' : LiftRecord}

theorem Trip.Sound.findLift_eq (h : t.Sound) (hlifts : t.lifts = before ++ x :: after) {number : Nat}
    (hnumber : x.number = number) : findLift t.lifts number = some x := by
  rw [hlifts, ← hnumber]
  exact findLift_of_split (hlifts ▸ h.numbers_rise)

/-- What an undo leaves of a sound trip: the newest record and its contributions are gone (R79, R89). -/
theorem undo_eq (h : t.Sound) (hlifts : t.lifts = before ++ [x]) :
    t.undo x =
      { t with
        lifts := before
        table := setTotals t.table x.assortment x.direction ((t.table[x.assortment].dir x.direction).leave x)
        estimate :=
          if x.direction = .load then t.estimate - (x.contribution : Nat)
          else t.estimate + (x.contribution : Nat) } := by
  have hle := h.entry_contribution_le hlifts
  have hestimate :
      (t.undo x).estimate =
        if x.direction = .load then t.estimate - (x.contribution : Nat)
        else t.estimate + (x.contribution : Nat) := by
    refine (tableEstimate_setTotals_mass ..).trans ?_
    rw [← h.estimate_eq]
    simp only [DirTotals.leave]
    split <;> omega
  rw [← hestimate]
  simp [Trip.undo, Trip.recompute, hlifts]

/-- What a correction leaves of a sound trip: the record replaced, and the change of its contribution in its entry and
in the estimate (R79, R90). -/
theorem corrected_eq (h : t.Sound) (hlifts : t.lifts = before ++ x :: after) (hnumber : x'.number = x.number) :
    t.corrected x x' =
      { t with
        lifts := before ++ x' :: after
        table :=
          setTotals t.table x.assortment x.direction
            ((t.table[x.assortment].dir x.direction).correct x.contribution x'.contribution)
        estimate :=
          if x.direction = .load then t.estimate + x'.contribution - x.contribution
          else t.estimate - x'.contribution + x.contribution } := by
  have hle := h.entry_contribution_le hlifts
  have hestimate :
      (t.corrected x x').estimate =
        if x.direction = .load then t.estimate + x'.contribution - x.contribution
        else t.estimate - x'.contribution + x.contribution := by
    refine (tableEstimate_setTotals_mass ..).trans ?_
    rw [← h.estimate_eq]
    simp only [DirTotals.correct]
    split <;> omega
  rw [← hestimate, ← h.replaceLift_eq hlifts hnumber]
  rfl

/-- The table after a reassignment: the record's contributions have left the one entry and joined the other, and every
other entry stands (R91). -/
theorem movedTable_spec {a : Fin 16} (ha : x.assortment ≠ a) :
    (t.movedTable x a)[x.assortment].dir x.direction = (t.table[x.assortment].dir x.direction).leave x ∧
      (t.movedTable x a)[a].dir x.direction = (t.table[a].dir x.direction).join x ∧
      ∀ (b : Fin 16) (d : LiftDirection), ((b ≠ x.assortment ∧ b ≠ a) ∨ d ≠ x.direction) →
        (t.movedTable x a)[b].dir d = t.table[b].dir d := by
  rw [movedTable_eq t (Ne.symm ha)]
  refine ⟨?_, setTotals_dir_same _ _ _ _, fun b d hother => ?_⟩
  · rw [setTotals_dir_other _ _ (.inl ha), setTotals_dir_same]
  · rw [setTotals_dir_other _ _ (hother.imp_left And.right), setTotals_dir_other _ _ (hother.imp_left And.left)]

end Trips

/-! #### The owners, by what they find -/

section Owners

variable {s : State} {x : LiftRecord}

theorem undoLastOwner_of_empty (h : s.lt.lifts = []) (u : Unit) : undoLastOwner u s = refuse .empty s := by
  simp [undoLastOwner, h]

theorem undoLastOwner_of_unlisted (h : s.lt.lifts ≠ []) (hflag : s.lt.lastUnlisted = true) (u : Unit) :
    undoLastOwner u s = refuse .unlisted s := by
  simp [undoLastOwner, List.getLast?_eq_some_getLast h, hflag]

theorem undoLastOwner_of_listed {others : List LiftRecord} (h : s.lt.lifts = others ++ [x])
    (hflag : s.lt.lastUnlisted = false) (u : Unit) :
    undoLastOwner u s = answerDone (payloadTest s.payload (s.setLt (s.lt.undo x))) (.lift x) := by
  simp [undoLastOwner, h, hflag]

/-- A Correct request whose number and correction lie in their ranges (R90). -/
def CorrectRequest.InRange (r : CorrectRequest) : Prop :=
  (1 ≤ r.number ∧ r.number ≤ 65535) ∧ -500 ≤ r.correction ∧ r.correction ≤ 500

theorem correctOwner_of_bad {r : CorrectRequest} (h : r.number = 0 ∨ r.correction < -500 ∨ 500 < r.correction) :
    correctOwner r s = refuse .badField s := by
  refine if_pos ?_
  simp only [Bool.or_eq_true, Bool.not_eq_true', ← Bool.not_eq_true, inRange_iff, inRangeInt_iff]
  omega

theorem correctOwner_of_absent {r : CorrectRequest} (h : r.InRange) (hx : findLift s.lt.lifts r.number = none) :
    correctOwner r s = refuse .notFound s := by
  obtain ⟨hnumber, hcorrection⟩ := h
  simp [correctOwner, (inRange_iff ..).2 hnumber, (inRangeInt_iff ..).2 hcorrection, hx]

theorem correctOwner_of_found {r : CorrectRequest} {x' : LiftRecord} (h : r.InRange)
    (hx : findLift s.lt.lifts r.number = some x) (hx' : x' = { x with correction := some r.correction }) :
    correctOwner r s =
      if x.mass = none then refuse .noMass s
      else if ((s.lt.table[x.assortment].dir x.direction).correct x.contribution x'.contribution).fits = false then
        refuse .state s
      else
        answerDone (payloadTest s.payload (s.setLt (s.lt.corrected x x')))
          (.corrected x' x.contribution x'.contribution) := by
  obtain ⟨hnumber, hcorrection⟩ := h
  simp [correctOwner, (inRange_iff ..).2 hnumber, (inRangeInt_iff ..).2 hcorrection, hx, hx']

theorem reassignOwner_of_bad {r : ReassignRequest} (h : r.number = 0 ∨ 15 < r.assortment) :
    reassignOwner r s = refuse .badField s := by
  rcases h with h | h
  · simp [reassignOwner, h, inRange]
  · simp [reassignOwner, finOf_of_le (n := 16) h]

section InRange

variable {r : ReassignRequest} {a : Fin 16} (h : 1 ≤ r.number ∧ r.number ≤ 65535) (ha : r.assortment = a.val)

include h ha

theorem reassignOwner_of_absent (hx : findLift s.lt.lifts r.number = none) :
    reassignOwner r s = refuse .notFound s := by
  simp [reassignOwner, (inRange_iff ..).2 h, ha, hx]

theorem reassignOwner_of_found (hx : findLift s.lt.lifts r.number = some x) :
    reassignOwner r s =
      if x.assortment = a then answerDone s (.lift x)
      else if ((s.lt.table[a].dir x.direction).join x).fits = false then refuse .state s
      else answerDone (s.setLt (s.lt.reassigned x a)) (.lift { x with assortment := a }) := by
  simp [reassignOwner, (inRange_iff ..).2 h, ha, hx]

end InRange

end Owners

/-! #### The three requests, next to be taken -/

section Asked

variable {s : State} {dt : Nat} {tag : Byte} {fields : List Byte} {rest : List InFrame} {before after : List LiftRecord}
  {x x' : LiftRecord}

theorem exec_undoLast_asked (h : s.asked 0x33#8 tag [] rest) :
    exec (.undoLast dt) s =
      .next
        (putReply s.clp.outbound.length ⟨0x33#8, tag, []⟩
          (undoLastOwner () (takenState dt ⟨0x33#8, tag, []⟩ rest s))) :=
  asked_decoded (x := ()) undoLastOwner h rfl

theorem exec_undoLast_listed (h : s.asked 0x33#8 tag [] rest) (hlifts : s.lt.lifts = before ++ [x])
    (hflag : s.lt.lastUnlisted = false) :
    exec (.undoLast dt) s =
      .next (payloadTest s.payload ((s.replied dt rest 0x33#8 tag .done (.lift x)).setLt (s.lt.undo x))) := by
  rw [exec_undoLast_asked h, undoLastOwner_of_listed (s := takenState dt ⟨0x33#8, tag, []⟩ rest s) hlifts hflag]
  exact congrArg _ (putReply_setLt_payloadTest ..)

section Correct

variable {r : CorrectRequest} (h : s.asked 0x34#8 tag fields rest) (hr : decodeAll readCorrect fields = some r)

include h hr

theorem exec_correct_asked :
    exec (.correct dt) s =
      .next
        (putReply s.clp.outbound.length ⟨0x34#8, tag, fields⟩
          (correctOwner r (takenState dt ⟨0x34#8, tag, fields⟩ rest s))) :=
  asked_decoded correctOwner h hr

theorem exec_correct_bad (hbad : r.number = 0 ∨ r.correction < -500 ∨ 500 < r.correction) :
    exec (.correct dt) s = .next (s.replied dt rest 0x34#8 tag .badField .none) := by
  rw [exec_correct_asked h hr, correctOwner_of_bad hbad, putReply_refuse]

variable (hgood : r.InRange)

include hgood

theorem exec_correct_absent (habsent : ∀ x ∈ s.lt.lifts, x.number ≠ r.number) :
    exec (.correct dt) s = .next (s.replied dt rest 0x34#8 tag .notFound .none) := by
  rw [exec_correct_asked h hr, correctOwner_of_absent (s := takenState dt ⟨0x34#8, tag, fields⟩ rest s) hgood
    (findLift_eq_none_iff.2 habsent), putReply_refuse]

variable (hx : findLift s.lt.lifts r.number = some x)

include hx

theorem exec_correct_unweighed (hmass : x.mass = none) :
    exec (.correct dt) s = .next (s.replied dt rest 0x34#8 tag .noMass .none) := by
  rw [exec_correct_asked h hr, correctOwner_of_found (s := takenState dt ⟨0x34#8, tag, fields⟩ rest s) hgood hx rfl,
    if_pos hmass, putReply_refuse]

variable (hmass : x.mass ≠ none) (hx' : x' = { x with correction := some r.correction })

include hmass hx'

theorem exec_correct_full
    (hfull : ((s.lt.table[x.assortment].dir x.direction).correct x.contribution x'.contribution).fits = false) :
    exec (.correct dt) s = .next (s.replied dt rest 0x34#8 tag .state .none) := by
  rw [exec_correct_asked h hr, correctOwner_of_found (s := takenState dt ⟨0x34#8, tag, fields⟩ rest s) hgood hx hx',
    if_neg hmass, takenState_lt, if_pos hfull, putReply_refuse]

theorem exec_correct_fits
    (hfits : ((s.lt.table[x.assortment].dir x.direction).correct x.contribution x'.contribution).fits = true) :
    exec (.correct dt) s =
      .next
        (payloadTest s.payload
          ((s.replied dt rest 0x34#8 tag .done (.corrected x' x.contribution x'.contribution)).setLt
            (s.lt.corrected x x'))) := by
  rw [exec_correct_asked h hr, correctOwner_of_found (s := takenState dt ⟨0x34#8, tag, fields⟩ rest s) hgood hx hx',
    if_neg hmass, takenState_lt, if_neg (Bool.ne_false_iff.2 hfits)]
  exact congrArg _ (putReply_setLt_payloadTest ..)

end Correct

section Reassign

variable {r : ReassignRequest} (h : s.asked 0x35#8 tag fields rest) (hr : decodeAll readReassign fields = some r)

include h hr

theorem exec_reassign_asked :
    exec (.reassign dt) s =
      .next
        (putReply s.clp.outbound.length ⟨0x35#8, tag, fields⟩
          (reassignOwner r (takenState dt ⟨0x35#8, tag, fields⟩ rest s))) :=
  asked_decoded reassignOwner h hr

theorem exec_reassign_bad (hbad : r.number = 0 ∨ 15 < r.assortment) :
    exec (.reassign dt) s = .next (s.replied dt rest 0x35#8 tag .badField .none) := by
  rw [exec_reassign_asked h hr, reassignOwner_of_bad hbad, putReply_refuse]

variable {a : Fin 16} (hgood : 1 ≤ r.number ∧ r.number ≤ 65535) (ha : r.assortment = a.val)

include hgood ha

theorem exec_reassign_absent (habsent : ∀ x ∈ s.lt.lifts, x.number ≠ r.number) :
    exec (.reassign dt) s = .next (s.replied dt rest 0x35#8 tag .notFound .none) := by
  rw [exec_reassign_asked h hr, reassignOwner_of_absent (s := takenState dt ⟨0x35#8, tag, fields⟩ rest s) hgood ha
    (findLift_eq_none_iff.2 habsent), putReply_refuse]

variable (hx : findLift s.lt.lifts r.number = some x)

include hx

theorem exec_reassign_same (hsame : x.assortment = a) :
    exec (.reassign dt) s = .next (s.replied dt rest 0x35#8 tag .done (.lift x)) := by
  rw [exec_reassign_asked h hr, reassignOwner_of_found (s := takenState dt ⟨0x35#8, tag, fields⟩ rest s) hgood ha hx,
    if_pos hsame]
  exact congrArg _ (putReply_same ..)

variable (hne : x.assortment ≠ a)

include hne

theorem exec_reassign_full (hfull : ((s.lt.table[a].dir x.direction).join x).fits = false) :
    exec (.reassign dt) s = .next (s.replied dt rest 0x35#8 tag .state .none) := by
  rw [exec_reassign_asked h hr, reassignOwner_of_found (s := takenState dt ⟨0x35#8, tag, fields⟩ rest s) hgood ha hx,
    if_neg hne, takenState_lt, if_pos hfull, putReply_refuse]

theorem exec_reassign_fits (hfits : ((s.lt.table[a].dir x.direction).join x).fits = true) :
    exec (.reassign dt) s =
      .next
        ((s.replied dt rest 0x35#8 tag .done (.lift { x with assortment := a })).setLt (s.lt.reassigned x a)) := by
  rw [exec_reassign_asked h hr, reassignOwner_of_found (s := takenState dt ⟨0x35#8, tag, fields⟩ rest s) hgood ha hx,
    if_neg hne, takenState_lt, if_neg (Bool.ne_false_iff.2 hfits), putReply_setLt]

end Reassign

end Asked

/-- Settles O46, a request at a time: what it finds decides the answer, and the trip record it leaves is the sound one
with the record, its entries and the estimate moved. -/
theorem undoCorrectReassign : Obligations.UndoCorrectReassign := by
  intro s dt tag fields rest hs
  refine ⟨fun h => ⟨fun hempty => ?_, fun hlifts hflag => ?_, fun others x hlifts hflag => ?_⟩,
    fun r h hr => ⟨exec_correct_bad h hr, fun hone hlow hhigh => ?_⟩,
    fun r h hr => ⟨exec_reassign_bad h hr, fun a hone ha => ?_⟩⟩
  · rw [exec_undoLast_asked h, undoLastOwner_of_empty (s := takenState dt ⟨0x33#8, tag, []⟩ rest s) hempty,
      putReply_refuse]
  · rw [exec_undoLast_asked h, undoLastOwner_of_unlisted (s := takenState dt ⟨0x33#8, tag, []⟩ rest s) hlifts hflag,
      putReply_refuse]
  · rw [← weighedCount_eq]
    refine ⟨_, setTotals_dir_same _ _ _ _, fun a d hother => setTotals_dir_other _ _ hother, ?_⟩
    rw [exec_undoLast_listed h hlifts hflag, undo_eq hs hlifts]
    rfl
  · have hgood : r.InRange := ⟨⟨hone, readCorrect_number_le hr⟩, hlow, hhigh⟩
    refine ⟨exec_correct_absent h hr hgood, fun before after x hlifts hnumber => ?_⟩
    have hx := hs.findLift_eq hlifts hnumber
    refine ⟨exec_correct_unweighed h hr hgood hx, fun m old new hm hold hnew => ?_⟩
    obtain rfl := contribution_of_mass hm hold
    obtain rfl := contribution_of_mass (x := { x with correction := some r.correction }) hm hnew
    have hmass : x.mass ≠ none := by simp [hm]
    have hfits := correct_fits_iff (hs.entry_fits x.assortment x.direction) x.contribution
      { x with correction := some r.correction }.contribution
    refine ⟨fun hover => ?_, fun hle => ⟨_, setTotals_dir_same _ _ _ _, fun a d hother =>
      setTotals_dir_other _ _ hother, ?_⟩⟩
    · exact exec_correct_full h hr hgood hx hmass rfl (Bool.eq_false_iff.2 (mt hfits.1 (not_le.2 hover)))
    · rw [exec_correct_fits h hr hgood hx hmass rfl (hfits.2 hle),
        corrected_eq hs hlifts (x' := { x with correction := some r.correction }) rfl]
      rfl
  · have hgood : 1 ≤ r.number ∧ r.number ≤ 65535 := ⟨hone, readReassign_number_le hr⟩
    refine ⟨exec_reassign_absent h hr hgood ha, fun before after x hlifts hnumber => ?_⟩
    have hx := hs.findLift_eq hlifts hnumber
    refine ⟨exec_reassign_same h hr hgood ha hx, fun old new hne hold hnew => ?_⟩
    rw [← weighedCount_eq] at hold hnew
    obtain rfl : old = (s.lt.table[x.assortment].dir x.direction).leave x := hold
    obtain rfl : new = (s.lt.table[a].dir x.direction).join x := hnew
    have hfits := join_fits_iff (hs.entry_fits a x.direction) x
    obtain ⟨hleft, hjoined, hother⟩ := movedTable_spec (t := s.lt) hne
    refine ⟨fun hover => ?_, fun hcount hweighed hmass => ⟨_, hleft, hjoined, hother, ?_⟩⟩
    · refine exec_reassign_full h hr hgood ha hx hne (Bool.eq_false_iff.2 (mt hfits.1 ?_))
      omega
    · rw [exec_reassign_fits h hr hgood ha hx hne (hfits.2 ⟨hcount, hweighed, hmass⟩), Trip.reassigned,
        hs.replaceLift_eq hlifts (x' := { x with assortment := a }) rfl]
      rfl

end Sys2Proof.Machine
end

section
/-! ### Manual lift, Trip close and Payload limit -/

namespace Sys2Proof.Machine

open Sys2Proof

/-! #### A filing behind a reply -/

section PutOut

variable {s : State} {place : Nat} (f : OutFrame) (h : place < s.clp.outbound.length)

include h

/-- A filing's latches and its payload test stand behind a frame that waits (R183). -/
theorem fileLift_putOut (d : LiftDirection) (a : Fin 16) (mass : Option Nat) (flags : LiftFlags) :
    fileLift d a mass flags (s.putOut place f) =
      ((fileLift d a mass flags s).1.putOut place f, (fileLift d a mass flags s).2) := by
  by_cases hfits : (s.lt.filedTotals d a mass).fits = true
  · have hfiled : place < (s.setLt (s.lt.filed d a mass flags)).clp.outbound.length := h
    have hlatched : place <
        (latchIf (!s.lt.listsNext) .listFull (s.setLt (s.lt.filed d a mass flags))).clp.outbound.length := by
      cases s.lt.listsNext with
      | true => exact h
      | false =>
        obtain ⟨more, hmore⟩ := latch_prefix .listFull (s.setLt (s.lt.filed d a mass flags))
        rw [Bool.not_false, latchIf_true, hmore, List.length_append]
        omega
    have hputOut := payloadTest_putOut f hlatched s.payload
    rw [← latchIf_putOut f hfiled] at hputOut
    simp only [fileLift, if_pos hfits]
    rw [← hputOut]
    exact if_pos hfits
  · simp only [fileLift, if_neg hfits]
    exact if_neg hfits

end PutOut

/-! #### The owners -/

section Owners

variable {s : State}

theorem manualLiftOwner_of_bad {r : ManualRequest} (h : 15 < r.assortment ∨ ∃ m, r.mass = some m ∧ 4095 < m) :
    manualLiftOwner r s = refuse .badField s := by
  rcases h with h | ⟨m, hm, hlt⟩
  · simp [manualLiftOwner, finOf_of_le (n := 16) h]
  · have hrange : optRange 0 4095 r.mass = false := by
      rw [Bool.eq_false_iff, Ne, optRange_iff]
      exact fun hall => absurd (hall m hm).2 (not_le.2 hlt)
    unfold manualLiftOwner
    rw [hrange]
    cases finOf 16 r.assortment <;> rfl

section Good

variable {r : ManualRequest} {a : Fin 16} (ha : r.assortment = a.val) (hmass : ∀ x, r.mass = some x → x ≤ 4095)

include ha hmass

theorem manualLiftOwner_of_full (h : fileLift r.direction a r.mass manualFlags s = (s, none)) :
    manualLiftOwner r s = refuse .state s := by
  have hrange : optRange 0 4095 r.mass = true := (optRange_iff ..).2 fun n hn => ⟨Nat.zero_le n, hmass n hn⟩
  simp [manualLiftOwner, ha, hrange, h]

theorem manualLiftOwner_of_filed {u : State} {ans : FilingAnswer}
    (h : fileLift r.direction a r.mass manualFlags s = (u, some ans)) :
    manualLiftOwner r s = answerDone u (.filed ans) := by
  have hrange : optRange 0 4095 r.mass = true := (optRange_iff ..).2 fun n hn => ⟨Nat.zero_le n, hmass n hn⟩
  simp [manualLiftOwner, ha, hrange, h]

end Good

theorem payloadLimitOwner_of_bad {n : Nat} (h : n < 1000 ∨ 30000 < n) :
    payloadLimitOwner (some n) s = refuse .badField s := by
  refine if_pos ?_
  rw [Bool.not_eq_true', ← Bool.not_eq_true, inRange_iff]
  omega

theorem payloadLimitOwner_of_good {n : Nat} (h : 1000 ≤ n ∧ n ≤ 30000) :
    payloadLimitOwner (some n) s =
      answerDone (payloadTest s.payload (s.setSettings { s.settings with payloadLimit := n }))
        (s.setSettings { s.settings with payloadLimit := n }).payloadReply := by
  have hrange : inRange 1000 30000 n = true := (inRange_iff ..).2 h
  simp [payloadLimitOwner, hrange, payloadTest_payloadReply]

end Owners

/-! #### The three requests, next to be taken -/

section Asked

variable {s : State} {dt : Nat} {tag : Byte} {fields : List Byte} {rest : List InFrame}

section Manual

variable {r : ManualRequest} (h : s.asked 0x36#8 tag fields rest) (hr : decodeAll readManual fields = some r)

include h hr

theorem exec_manualLift_asked :
    exec (.manualLift dt) s =
      .next
        (putReply s.clp.outbound.length ⟨0x36#8, tag, fields⟩
          (manualLiftOwner r (takenState dt ⟨0x36#8, tag, fields⟩ rest s))) :=
  asked_decoded manualLiftOwner h hr

theorem exec_manualLift_bad (hbad : 15 < r.assortment ∨ ∃ m, r.mass = some m ∧ 4095 < m) :
    exec (.manualLift dt) s = .next (s.replied dt rest 0x36#8 tag .badField .none) := by
  rw [exec_manualLift_asked h hr, manualLiftOwner_of_bad hbad, putReply_refuse]

variable {a : Fin 16} (ha : r.assortment = a.val) (hmass : ∀ x, r.mass = some x → x ≤ 4095)

include ha hmass

/-- A total at its greatest value turns the lift away (R85). -/
theorem exec_manualLift_full
    (hfull : ∃ x ∈ [(s.lt.filedTotals r.direction a r.mass).count, (s.lt.filedTotals r.direction a r.mass).weighed,
      (s.lt.filedTotals r.direction a r.mass).mass, (s.lt.filedTotals r.direction a r.mass).unlisted,
      (s.lt.filedTotals r.direction a r.mass).unlistedMass], 4294967295 < x) :
    exec (.manualLift dt) s = .next (s.replied dt rest 0x36#8 tag .state .none) := by
  rw [exec_manualLift_asked h hr, manualLiftOwner_of_full ha hmass
    (fileLift_of_full (s := takenState dt ⟨0x36#8, tag, fields⟩ rest s) hfull), putReply_refuse]

/-- A manual lift that is not turned away is filed as if its reply had been sent already (R88, R183). -/
theorem exec_manualLift_filed (hfits : (s.lt.filedTotals r.direction a r.mass).fits = true) :
    exec (.manualLift dt) s =
      .next
        (fileLift r.direction a r.mass manualFlags
          (s.replied dt rest 0x36#8 tag .done (.filed (s.lt.answer r.direction a r.mass manualFlags)))).1 := by
  have hanswer := congrArg Prod.snd
    (fileLift_of_fits (s := takenState dt ⟨0x36#8, tag, fields⟩ rest s) (flags := manualFlags) hfits)
  rw [exec_manualLift_asked h hr, manualLiftOwner_of_filed ha hmass (Prod.ext rfl hanswer),
    ← takenState_putOut dt 0x36#8 tag fields,
    fileLift_putOut _ (outbound_lt_takenState ..)]
  rfl

end Manual

theorem exec_tripClose_asked (h : s.asked 0x37#8 tag [] rest) :
    exec (.tripClose dt) s =
      .next
        ((s.replied dt rest 0x37#8 tag .done
          (.tripClosed s.lt.number s.lt.counter s.lt.lifts.length s.lt.estimate (nextTrip s.lt.number))).setLt
            s.closedTrip) := by
  refine (asked_decoded (x := ()) tripCloseOwner h rfl).trans ?_
  exact congrArg _ (putReply_setLt ..)

theorem closedTrip_table (s : State) (a : Fin 16) (d : LiftDirection) : s.closedTrip.table[a].dir d = emptyTotals := by
  cases d <;> simp [State.closedTrip, emptyEntry, TallyEntry.dir]

section Payload

variable {r : Option Nat} (h : s.asked 0x38#8 tag fields rest) (hr : decodeAll readOptU16 fields = some r)

include h hr

theorem exec_payloadLimit_asked :
    exec (.payloadLimit dt) s =
      .next
        (putReply s.clp.outbound.length ⟨0x38#8, tag, fields⟩
          (payloadLimitOwner r (takenState dt ⟨0x38#8, tag, fields⟩ rest s))) :=
  asked_decoded payloadLimitOwner h hr

theorem exec_payloadLimit_bad {n : Nat} (hn : r = some n) (hbad : n < 1000 ∨ 30000 < n) :
    exec (.payloadLimit dt) s = .next (s.replied dt rest 0x38#8 tag .badField .none) := by
  rw [exec_payloadLimit_asked h hr, hn, payloadLimitOwner_of_bad hbad, putReply_refuse]

/-- A limit in its range is replaced, and the levels are tested behind the reply (R84, R97). -/
theorem exec_payloadLimit_good {n : Nat} (hn : r = some n) (hgood : 1000 ≤ n ∧ n ≤ 30000) :
    exec (.payloadLimit dt) s =
      .next
        (payloadTest s.payload
          ((s.replied dt rest 0x38#8 tag .done
            (s.setSettings { s.settings with payloadLimit := n }).payloadReply).setSettings
              { s.settings with payloadLimit := n })) := by
  rw [exec_payloadLimit_asked h hr, hn, payloadLimitOwner_of_good hgood, putReply_payloadTest,
    ← takenState_putOut dt 0x38#8 tag fields]
  · rfl
  · exact outbound_lt_takenState ..

end Payload

end Asked

/-- Settles O47: a manual lift by what its totals allow, a Trip close whole, a payload limit by its range, and the
payload test by the states before and after. -/
theorem filingsTripCloseAndPayload : Obligations.FilingsTripCloseAndPayload := by
  intro s dt tag fields rest
  refine ⟨fun r h hr hs => ⟨exec_manualLift_bad h hr, ?_⟩, fun h => ?_, fun r h hr => ⟨?_, ?_, ?_⟩,
    payload_full_iff s, payload_normal_iff s, fun before => payloadTest_eq before s⟩
  · intro a listed m w number old new ha hmass hlisted hm hw hnumber hold hnew
    obtain rfl : listed = s.lt.listsNext := Bool.eq_iff_iff.2 (hlisted.trans (listsNext_iff _).symm)
    obtain rfl : number = s.lt.nextNumber := hnumber
    subst hm hw hold
    obtain rfl : new = s.lt.filedTotals r.direction a r.mass := hnew.trans (filedTotals_eq _ _ _ _).symm
    refine ⟨exec_manualLift_full h hr ha hmass, fun hfits => ?_⟩
    have hfits := (fits_iff _).2 hfits
    refine ⟨_, manualFlags,
      (s.replied dt rest 0x36#8 tag .done (.filed (s.lt.answer r.direction a r.mass manualFlags))).setLt
        (s.lt.filed r.direction a r.mass manualFlags),
      rfl, setTotals_dir_same _ _ _ _, fun b d hother => setTotals_dir_other _ _ hother, ?_, ?_⟩
    · rw [← filed_estimate hs.estimate_eq r.direction a r.mass manualFlags]
      rfl
    · rw [exec_manualLift_filed h hr ha hmass hfits]
      exact congrArg _ (congrArg Prod.fst (fileLift_of_fits (s := s.replied dt rest 0x36#8 tag .done _) hfits))
  · exact ⟨s.closedTrip.table, nextTrip s.lt.number, closedTrip_table s, rfl, exec_tripClose_asked h⟩
  · rintro rfl
    rw [exec_payloadLimit_asked h hr]
    exact congrArg _ (putReply_same ..)
  · exact fun n hn => exec_payloadLimit_bad h hr hn
  · exact fun n hn hlow hhigh => ⟨_, rfl, exec_payloadLimit_good h hr hn ⟨hlow, hhigh⟩⟩

end Sys2Proof.Machine
end

section
/-! ### The settings and the store: what the commands that write neither leave of them -/

namespace Sys2Proof.Machine

open Sys2Proof

/-- The working settings and the store: the part of the state that the soundness of O7 speaks of. -/
def State.stored (s : State) : Settings × Ssr := (s.settings, s.ssr)

section Updates

variable (s : State)

@[simp] theorem State.setWlc_stored (x : Wlc) : (s.setWlc x).stored = s.stored := rfl
@[simp] theorem State.setWce_stored (x : Wce) : (s.setWce x).stored = s.stored := rfl
@[simp] theorem State.setLt_stored (x : Trip) : (s.setLt x).stored = s.stored := rfl
@[simp] theorem State.setDsh_stored (x : Vector DshSection 6) : (s.setDsh x).stored = s.stored := rfl
@[simp] theorem State.setCds_stored (x : Cds) : (s.setCds x).stored = s.stored := rfl
@[simp] theorem State.setClp_stored (x : Clp) : (s.setClp x).stored = s.stored := rfl
@[simp] theorem State.publishCds_stored (c : Cds) : (s.publishCds c).stored = s.stored := rfl
@[simp] theorem raiseReport_stored (r : Report) : (raiseReport r s).stored = s.stored := rfl
@[simp] theorem putReply_stored (place : Nat) (f : InFrame) (a : Answer) :
    (putReply place f a).stored = a.state.stored := rfl
@[simp] theorem takeFrame_stored (f : InFrame) (rest : List InFrame) : (takeFrame f rest s).stored = s.stored := rfl

@[simp] theorem State.ite_stored (p : Prop) [Decidable p] (a b : State) :
    (if p then a else b).stored = if p then a.stored else b.stored := apply_ite State.stored p a b

@[simp] theorem latchIf_stored (b : Bool) (src : ChangeSource) : (latchIf b src s).stored = s.stored := by
  simp [State.stored]

@[simp] theorem latch_stored (src : ChangeSource) : (latch src s).stored = s.stored := latchIf_stored s true src

/-- What a demand event leaves standing holds the settings and the store. -/
theorem stored_of_standing {s t : State} (h : t.standing = s.standing) : t.stored = s.stored :=
  Prod.ext (congrArg Standing.settings h) (congrArg Standing.ssr h)

end Updates

/-! #### The engine, the tally and the drive side -/

section Events

variable (s : State)

@[simp] theorem payloadTest_stored (before : PayloadState) : (payloadTest before s).stored = s.stored := by
  simp [payloadTest]

@[simp] theorem failTare_stored (reason : TareReason) : (failTare reason s).stored = s.stored :=
  stored_of_standing (failTare_standing s reason)

@[simp] theorem endUnweighed_stored (reason : EndReason) : (endUnweighed reason s).stored = s.stored := rfl

@[simp] theorem engineSample_stored (x : Sample) : (engineSample x s).stored = s.stored := by
  rw [engineSample_frame]
  rfl

@[simp] theorem triggerArmed_stored : (triggerArmed s).stored = s.stored := by
  rw [triggerArmed_frame]
  rfl

@[simp] theorem demandEvent_stored : (demandEvent s).stored = s.stored := stored_of_standing (demandEvent_standing s)

@[simp] theorem driveSupply_stored (halt : Bool) : (driveSupply halt s).stored = s.stored := by
  have hstanding := driveSupply_standing halt s
  exact Prod.ext (congrArg Standing.settings hstanding) (congrArg Standing.ssr hstanding)

theorem demandExpired_stored (v : ValveSection) : (demandExpired v s).stored = s.stored := by simp [demandExpired]

theorem suspendExpired_stored : (suspendExpired s).stored = s.stored := by simp [suspendExpired]

theorem supplySettleExpired_stored : (supplySettleExpired s).stored = s.stored := by simp [supplySettleExpired]

theorem idleTimerExpired_stored : (idleTimerExpired s).stored = s.stored := by simp [idleTimerExpired]

theorem drivePeriodTaken_stored (currents : Vector Nat 6) : (drivePeriodTaken currents s).stored = s.stored := by
  simp [drivePeriodTaken, publishSections, coilsAll, judgeAll, shapeAll, lockUnlessLocked, lockSupply]

theorem driverTripped_stored (v : ValveSection) : (driverTripped v s).stored = s.stored := by
  simp [driverTripped, lockUnlessLocked, lockSupply]

theorem scanned_stored (raw : Vector Nat 9) : (scanned raw s).stored = s.stored := by
  rw [scanned_frame]
  rfl

theorem gapExpired_stored : (gapExpired s).stored = s.stored := by
  unfold gapExpired
  split <;> simp

theorem frameSent_stored : (frameSent s).stored = s.stored := by
  unfold frameSent
  split <;> simp

theorem unknownTaken_stored : (unknownTaken s).stored = s.stored := by
  unfold unknownTaken
  split <;> simp

end Events

/-! #### The weigh link -/

section Link

variable (s : State)

@[simp] theorem linkLeft_stored : (linkLeft s).stored = s.stored := by simp [linkLeft, engineLinkLeft]

@[simp] theorem enterFailed_stored (cause : LinkCause) : (enterFailed cause s).stored = s.stored := by
  simp [enterFailed]

theorem lineChanged_stored (level : Bool) : (lineChanged level s).stored = s.stored := by simp [lineChanged]

theorem debounceExpired_stored : (debounceExpired s).stored = s.stored := by
  simp [debounceExpired, becameAbsent, enterAbsent, becamePresent, powerOn]

theorem powerOffTimeExpired_stored : (powerOffTimeExpired s).stored = s.stored := by
  unfold powerOffTimeExpired
  split <;> simp

theorem linkSettleExpired_stored : (linkSettleExpired s).stored = s.stored := by
  unfold linkSettleExpired
  split <;> simp [enterIdentifying]

@[simp] theorem identityFailed_stored (began : Nat) : (identityFailed began s).stored = s.stored := by
  simp [identityFailed]

theorem identityRetried_stored : (identityRetried s).stored = s.stored := by
  unfold identityRetried
  split <;> simp

theorem pollMade_stored : (pollMade s).stored = s.stored := by
  unfold pollMade
  split <;> simp [makePoll]

@[simp] theorem recoveryDecision_stored : (recoveryDecision s).stored = s.stored := by
  simp [recoveryDecision, enterRecovering]

theorem linesRead_stored (clock data : Bool) : (linesRead clock data s).stored = s.stored := by
  unfold linesRead
  split <;> simp [enterIdentifying, sendPulse]

theorem pulseEnded_stored (data : Bool) : (pulseEnded data s).stored = s.stored := by
  unfold pulseEnded
  split <;> simp [enterIdentifying, sendPulse]

end Link

/-! #### The requests that write no setting -/

section Requests

variable (s : State)

theorem driveOwner_stored (r : DriveRequest) : (driveOwner r s).state.stored = s.stored := by
  have hheld : (driveHeld r s).stored = s.stored := rfl
  simp [driveOwner, driveTaken, hheld]

theorem statusOwner_stored (page : Nat) : (statusOwner page s).state.stored = s.stored := by
  unfold statusOwner
  split <;> rfl

theorem readChangesOwner_stored (u : Unit) : (readChangesOwner u s).state.stored = s.stored := by
  unfold readChangesOwner
  split <;> rfl

theorem clearChangesOwner_stored (sources : SourceSet) : (clearChangesOwner sources s).state.stored = s.stored := rfl

theorem releaseOwner_stored (u : Unit) : (releaseOwner u s).state.stored = s.stored := by
  simp [releaseOwner, released]

theorem faultClearOwner_stored (selector : Nat) : (faultClearOwner selector s).state.stored = s.stored := by
  simp [faultClearOwner, faultsCleared]

theorem armOwner_stored (u : Unit) : (armOwner u s).state.stored = s.stored := by
  unfold armOwner
  split <;> simp [armGripped]

theorem disarmOwner_stored (u : Unit) : (disarmOwner u s).state.stored = s.stored := by
  unfold disarmOwner
  split <;> simp

theorem linkStatusOwner_stored (u : Unit) : (linkStatusOwner u s).state.stored = s.stored := rfl

theorem linkResetOwner_stored (u : Unit) : (linkResetOwner u s).state.stored = s.stored := by
  simp [linkResetOwner, resetLink]

theorem tareOwner_stored (u : Unit) : (tareOwner u s).state.stored = s.stored := by simp [tareOwner]

theorem zoneReadOwner_stored (n : Nat) : (zoneReadOwner n s).state.stored = s.stored := by
  unfold zoneReadOwner
  split <;> rfl

theorem assortmentOwner_stored (r : Option Nat) : (assortmentOwner r s).state.stored = s.stored := by
  unfold assortmentOwner
  split
  · rfl
  · split <;> simp

theorem readLiftsOwner_stored (r : ReadLiftsRequest) : (readLiftsOwner r s).state.stored = s.stored := by
  simp [readLiftsOwner]

theorem readTotalsOwner_stored (r : ReadTotalsRequest) : (readTotalsOwner r s).state.stored = s.stored := by
  unfold readTotalsOwner
  split
  · rfl
  · split
    · rfl
    · split <;> simp

theorem undoLastOwner_stored (u : Unit) : (undoLastOwner u s).state.stored = s.stored := by
  unfold undoLastOwner
  split <;> simp

theorem correctOwner_stored (r : CorrectRequest) : (correctOwner r s).state.stored = s.stored := by
  unfold correctOwner
  split
  · rfl
  · split <;> simp

theorem reassignOwner_stored (r : ReassignRequest) : (reassignOwner r s).state.stored = s.stored := by
  unfold reassignOwner
  split
  · split <;> simp
  · rfl

theorem manualLiftOwner_stored (r : ManualRequest) : (manualLiftOwner r s).state.stored = s.stored := by
  unfold manualLiftOwner
  split
  · rename_i a _ _
    have hfiled := stored_of_standing (fileLift_standing s r.direction a r.mass manualFlags)
    split
    · rename_i s1 ans e
      simpa [e] using hfiled
    · rfl
  · rfl

theorem tripCloseOwner_stored (u : Unit) : (tripCloseOwner u s).state.stored = s.stored := rfl

theorem restartOwner_stored (kind : RestartKind) : (restartOwner kind s).state.stored = s.stored := rfl

end Requests

end Sys2Proof.Machine
end

section
/-! ### The settings, kept in their ranges by every step -/

namespace Sys2Proof.Machine

open Sys2Proof

/-! #### The soundness of the settings, taken apart by the blocks that own them -/

/-- The geometry lies in its ranges (R17). -/
abbrev Geometry.Sound (g : Geometry) : Prop :=
  g.pillar ≤ 1000 ∧ inRange 1000 8000 g.mainLen ∧ inRange 1000 8000 g.outerLen

/-- The calibration record lies in its ranges, and a tare is done on a bound head alone (R26, R38, R41). -/
abbrev CalRecord.Sound (c : CalRecord) : Prop :=
  inRange 900 1100 c.trim ∧ c.tare ≤ 2000 ∧ (c.tareDone → c.bound.isSome)

/-- The common settings lie in their ranges (section 7.7). -/
abbrev CommonSettings.Sound (c : CommonSettings) : Prop :=
  inRange 50 500 c.expiryTime ∧ inRange 1 600 c.idleTime ∧ inRange 20 500 c.settleTime

/-- `Settings.Sound` with a name for each part. -/
structure Settings.Fits (x : Settings) : Prop where
  cal : ∀ n : Fin 9, calOk n x.cal[n]
  geometry : x.geometry.Sound
  calRecord : x.calRecord.Sound
  capture : x.capture.Sound
  payloadLimit : inRange 1000 30000 x.payloadLimit
  zones : ∀ i : Fin 8, x.zones[i].Sound
  limiter : x.limiter.Sound
  rated : ∀ i : Fin 9, inRange 1000 999999 x.rated[i]
  sections : ∀ i : Fin 6, x.sections[i].Sound
  common : x.common.Sound
  profiles : ∀ t : Fin 3, ∀ k : Fin 16, x.profiles[t][k] ≤ 1000

theorem Settings.sound_iff_fits (x : Settings) : x.Sound ↔ x.Fits := by
  constructor
  · rintro ⟨hcal, hpillar, hmain, houter, htrim, htare, hbound, hcapture, hpayload, hzones, hlimiter, hrated, hsections,
      hexpiry, hidle, hsettle, hprofiles⟩
    exact ⟨hcal, ⟨hpillar, hmain, houter⟩, ⟨htrim, htare, hbound⟩, hcapture, hpayload, hzones, hlimiter, hrated,
      hsections, ⟨hexpiry, hidle, hsettle⟩, hprofiles⟩
  · rintro ⟨hcal, ⟨hpillar, hmain, houter⟩, ⟨htrim, htare, hbound⟩, hcapture, hpayload, hzones, hlimiter, hrated,
      hsections, ⟨hexpiry, hidle, hsettle⟩, hprofiles⟩
    exact ⟨hcal, hpillar, hmain, houter, htrim, htare, hbound, hcapture, hpayload, hzones, hlimiter, hrated, hsections,
      hexpiry, hidle, hsettle, hprofiles⟩

/-- What holds of the new entry and of every entry of a vector holds of every entry after the replacement. -/
theorem forall_getElem_set {α : Type} {n : Nat} {p : Fin n → α → Prop} {v : Vector α n} (h : ∀ i, p i v[i])
    {k : Fin n} {a : α} (ha : p k a) (i : Fin n) : p i (v.set k a)[i] := by
  by_cases hi : k = i
  · subst hi
    simpa using ha
  · simpa [Fin.val_ne_of_ne hi] using h i

/-! #### The fields of a request put into sound settings -/

/-- The new value of a field, or the old one, lies in the field's range. -/
theorem inRange_getD {lo hi d : Nat} {x : Option Nat} (hx : optRange lo hi x) (h : inRange lo hi d) :
    inRange lo hi (x.getD d) :=
  (inRange_iff _ _ _).2 ((optRange_iff_getD ((inRange_iff _ _ _).1 h) x).1 hx)

theorem le_getD {hi d : Nat} {x : Option Nat} (hx : optRange 0 hi x) (h : d ≤ hi) : x.getD d ≤ hi :=
  ((optRange_iff_getD ⟨Nat.zero_le d, h⟩ x).1 hx).2

theorem inRangeInt_getD {lo hi d : Int} {x : Option Int} (hx : optRangeInt lo hi x) (h : inRangeInt lo hi d) :
    inRangeInt lo hi (x.getD d) := by
  cases x
  · exact h
  · exact hx

theorem geometryApply_sound {r : GeometryRequest} {g : Geometry} (hr : geometryInRange r) (h : g.Sound) :
    (geometryApply r g).Sound := by
  simp only [geometryInRange, Bool.and_eq_true] at hr
  obtain ⟨⟨rpillar, rmain⟩, router⟩ := hr
  obtain ⟨hpillar, hmain, houter⟩ := h
  exact ⟨le_getD rpillar hpillar, inRange_getD rmain hmain, inRange_getD router houter⟩

theorem sectionApply_sound {r : SectionConfigRequest} {c : SectionSettings} (hr : sectionInRange r)
    (hagree : (sectionApply r c).consistent) (h : c.Sound) : (sectionApply r c).Sound := by
  simp only [sectionInRange, Bool.and_eq_true] at hr
  obtain ⟨⟨⟨⟨⟨⟨⟨⟨⟨rup, rdown⟩, rstart⟩, rdivider⟩, rdead⟩, rmin⟩, rmax⟩, -⟩, -⟩, -⟩ := hr
  obtain ⟨hup, hdown, hstart, hdivider, hdead, hmin, hmax, -⟩ := h
  exact ⟨inRange_getD rup hup, inRange_getD rdown hdown, le_getD rstart hstart, inRange_getD rdivider hdivider,
    le_getD rdead hdead, le_getD rmin hmin, inRange_getD rmax hmax, hagree⟩

theorem commonApply_sound {r : SectionConfigRequest} {c : CommonSettings} (hr : sectionInRange r) (h : c.Sound) :
    (commonApply r c).Sound := by
  simp only [sectionInRange, Bool.and_eq_true] at hr
  obtain ⟨⟨⟨-, rexpiry⟩, ridle⟩, rsettle⟩ := hr
  obtain ⟨hexpiry, hidle, hsettle⟩ := h
  exact ⟨inRange_getD rexpiry hexpiry, inRange_getD ridle hidle, inRange_getD rsettle hsettle⟩

theorem ratedApply_inRange {r : List (Option Nat)} {t : Vector Nat 9} (hr : r.all (optRange 1000 999999))
    (h : ∀ i : Fin 9, inRange 1000 999999 t[i]) (i : Fin 9) : inRange 1000 999999 (ratedApply r t)[i] := by
  have hentry : optRange 1000 999999 (r.getD i none) := by
    rw [List.getD_eq_getElem?_getD]
    cases hx : r[i.val]? with
    | none => rfl
    | some x => exact List.all_eq_true.1 hr x (List.mem_of_getElem? hx)
  have hnew := inRange_getD hentry (h i)
  simpa [ratedApply] using hnew

/-- An entry of a new profile is one of the request's, and 0 behind them (R153). -/
theorem profile_getD_le {es : List Nat} (hes : es.all (inRange 0 1000)) (k : Nat) : es.getD k 0 ≤ 1000 := by
  rw [List.getD_eq_getElem?_getD]
  cases hx : es[k]? with
  | none => exact Nat.zero_le _
  | some x => exact ((inRange_iff _ _ _).1 (List.all_eq_true.1 hes x (List.mem_of_getElem? hx))).2

/-- A Zone write without fields changes nothing (R110). -/
theorem zoneApply_of_empty {r : ZoneWriteRequest} (h : zoneEmpty r = true) (z : Zone) : zoneApply r z = z := by
  simp only [zoneEmpty, Bool.and_eq_true, Option.isNone_iff_eq_none] at h
  obtain ⟨⟨⟨⟨⟨⟨⟨hkind, hchassis⟩, hstart⟩, hstop⟩, hmin⟩, hmax⟩, hslow⟩, hguard⟩ := h
  simp [zoneApply, hkind, hchassis, hstart, hstop, hmin, hmax, hslow, hguard]

/-- Only a disabled zone takes fields, so a zone that takes them need not be ordered (R110). -/
theorem zoneApply_sound {r : ZoneWriteRequest} {z : Zone} (hr : zoneInRange r)
    (hfree : zoneEmpty r = true ∨ z.enable = false) (h : z.Sound) : (zoneApply r z).Sound := by
  rcases hfree with hempty | hdisabled
  · rwa [zoneApply_of_empty hempty]
  · simp only [zoneInRange, Bool.and_eq_true] at hr
    obtain ⟨⟨⟨⟨⟨rstart, rstop⟩, rmin⟩, rmax⟩, rslow⟩, rguard⟩ := hr
    obtain ⟨-, hstart, hstop, hmin, hmax, hslow, hguard⟩ := h
    have hoff : (zoneApply r z).enable = false := hdisabled
    exact ⟨fun hon => absurd hon (by simp [hoff]), inRangeInt_getD rstart hstart, inRangeInt_getD rstop hstop,
      le_getD rmin hmin, le_getD rmax hmax, le_getD rslow hslow, le_getD rguard hguard⟩

/-! #### The state's settings replaced -/

/-- A sound state stays sound while its settings and its store stand. -/
theorem State.SettingsSound.of_stored {s t : State} (h : s.SettingsSound) (e : t.stored = s.stored) :
    t.SettingsSound := by
  obtain ⟨hset, hssr⟩ := Prod.mk.inj e
  rw [State.SettingsSound, hset, hssr]
  exact h

theorem State.SettingsSound.fits {s : State} (h : s.SettingsSound) : s.settings.Fits :=
  (Settings.sound_iff_fits _).1 h.1

theorem State.SettingsSound.setSettings {s : State} (h : s.SettingsSound) {x : Settings} (hx : x.Fits) :
    (s.setSettings x).SettingsSound :=
  ⟨(Settings.sound_iff_fits _).2 hx, h.2⟩

/-! #### The requests that write settings -/

section Requests

variable (s : State)

theorem changeConfigOwner_settingsSound (r : ChangeConfigRequest) (h : s.SettingsSound) :
    (changeConfigOwner r s).state.SettingsSound := h

theorem sectionConfigOwner_settingsSound (r : SectionConfigRequest) (h : s.SettingsSound) :
    (sectionConfigOwner r s).state.SettingsSound := by
  unfold sectionConfigOwner
  split
  · exact h
  · rename_i i _
    split
    · exact h
    · split
      · exact h
      · rename_i hgood
        simp only [Bool.or_eq_true, Bool.not_eq_true', not_or, Bool.not_eq_false] at hgood
        obtain ⟨hrange, hagree⟩ := hgood
        split
        · exact h
        · exact h.setSettings { h.fits with
            sections := forall_getElem_set (p := fun _ => SectionSettings.Sound) h.fits.sections
              (sectionApply_sound hrange hagree (h.fits.sections i))
            common := commonApply_sound hrange h.fits.common }

theorem profileOwner_settingsSound (r : ProfileRequest) (h : s.SettingsSound) :
    (profileOwner r s).state.SettingsSound := by
  unfold profileOwner
  split
  · exact h
  · split
    · exact h
    · rename_i t _ es _
      split
      · exact h
      · rename_i hes
        split
        · exact h
        · refine h.setSettings { h.fits with
            profiles := forall_getElem_set (p := fun _ v => ∀ k : Fin 16, v[k] ≤ 1000) h.fits.profiles fun k => ?_ }
          have hentry := profile_getD_le (by simpa using hes) k.val
          simpa using hentry

theorem captureOwner_settingsSound (r : CaptureRequest) (h : s.SettingsSound) :
    (captureOwner r s).state.SettingsSound := by
  unfold captureOwner
  split
  · exact h
  · rename_i hrange
    split
    · exact h
    · exact h.setSettings { h.fits with
        capture := (captureApply_sound_iff r h.fits.capture).2 (by simpa using hrange) }

theorem payloadLimitOwner_settingsSound (r : Option Nat) (h : s.SettingsSound) :
    (payloadLimitOwner r s).state.SettingsSound := by
  unfold payloadLimitOwner
  split
  · exact h
  · rename_i n
    split
    · exact h
    · rename_i hrange
      have hset := h.setSettings (x := { s.settings with payloadLimit := n })
        { h.fits with payloadLimit := by simpa using hrange }
      exact hset.of_stored (payloadTest_stored _ s.payload)

theorem zoneWriteOwner_settingsSound (r : ZoneWriteRequest) (h : s.SettingsSound) :
    (zoneWriteOwner r s).state.SettingsSound := by
  unfold zoneWriteOwner
  split
  · exact h
  · rename_i i _
    split
    · exact h
    · rename_i hrange
      split
      · exact h
      · rename_i hfree
        have hfree : zoneEmpty r = true ∨ s.settings.zones[i].enable = false := by
          simpa [Classical.or_iff_not_imp_left] using hfree
        exact h.setSettings { h.fits with
          zones := forall_getElem_set (p := fun _ => Zone.Sound) h.fits.zones
            (zoneApply_sound (by simpa using hrange) hfree (h.fits.zones i)) }

/-- A zone is enabled in order, or was enabled and so in order before (R111). -/
theorem zoneEnableOwner_settingsSound (r : ZoneEnableRequest) (h : s.SettingsSound) :
    (zoneEnableOwner r s).state.SettingsSound := by
  unfold zoneEnableOwner
  split
  · exact h
  · rename_i i _
    split
    · exact h
    · rename_i hturned
      obtain ⟨hordered, hranges⟩ := h.fits.zones i
      have hturned : r.enable = true → s.settings.zones[i].ordered = true := by
        intro hon
        cases hwas : s.settings.zones[i].enable
        · rw [hon, hwas] at hturned
          simpa using hturned
        · exact hordered hwas
      exact h.setSettings { h.fits with
        zones := forall_getElem_set (p := fun _ => Zone.Sound) h.fits.zones ⟨hturned, hranges⟩ }

theorem limiterOwner_settingsSound (r : LimiterRequest) (h : s.SettingsSound) :
    (limiterOwner r s).state.SettingsSound := by
  rw [limiterOwner_eq r h.fits.limiter]
  split
  · rename_i hsound
    exact h.setSettings { h.fits with limiter := hsound }
  · exact h

theorem ratedOwner_settingsSound (r : List (Option Nat)) (h : s.SettingsSound) :
    (ratedOwner r s).state.SettingsSound := by
  unfold ratedOwner
  split
  · exact h
  · rename_i hrange
    rw [Bool.not_eq_true', Bool.not_eq_false] at hrange
    exact h.setSettings { h.fits with rated := ratedApply_inRange hrange h.fits.rated }

theorem channelOwner_settingsSound (r : ChannelRequest) (h : s.SettingsSound) :
    (channelOwner r s).state.SettingsSound := by
  unfold channelOwner
  split
  · exact h
  · split
    · exact h
    · split
      · rename_i hok
        exact h.setSettings { h.fits with cal := forall_getElem_set (p := fun n c => calOk n c) h.fits.cal hok }
      · exact h

theorem geometryOwner_settingsSound (r : GeometryRequest) (h : s.SettingsSound) :
    (geometryOwner r s).state.SettingsSound := by
  unfold geometryOwner
  split
  · exact h
  · rename_i hrange
    exact h.setSettings { h.fits with geometry := geometryApply_sound (by simpa using hrange) h.fits.geometry }

theorem calibrateOwner_settingsSound (r : CalibrateRequest) (h : s.SettingsSound) :
    (calibrateOwner r s).state.SettingsSound := by
  unfold calibrateOwner
  split
  · exact h
  · rename_i hrange
    split
    · exact h
    · obtain ⟨htrim, hrest⟩ := h.fits.calRecord
      exact h.setSettings { h.fits with calRecord := ⟨inRange_getD (by simpa using hrange) htrim, hrest⟩ }

end Requests

/-! #### The weigh link's part of the calibration record -/

section Link

variable {s : State}

/-- A record unbound from another head has no tare done (R26). -/
theorem compareSerial_settingsSound (serial : Nat) (h : s.SettingsSound) : (compareSerial serial s).SettingsSound := by
  unfold compareSerial
  split
  · obtain ⟨htrim, htare, -⟩ := h.fits.calRecord
    have hset := h.setSettings
      (x := { s.settings with calRecord := { s.settings.calRecord with bound := none, tareDone := false } })
      { h.fits with calRecord := ⟨htrim, htare, nofun⟩ }
    exact hset.of_stored (latch_stored _ _)
  · exact h

theorem identityReadEnded_settingsSound (answer : Option IdentityAnswer) (h : s.SettingsSound) :
    (identityReadEnded answer s).SettingsSound := by
  have hvalid (head : HeadIdentity) : (identityValid head s).SettingsSound := by
    have hcompared := compareSerial_settingsSound (s := s.setWlc { s.wlc with identity := some head }) head.serial h
    exact hcompared.of_stored (by simp [identityValid, enterRunning, makePoll])
  have hfailed (began : Nat) : (identityFailed began s).SettingsSound := h.of_stored (identityFailed_stored s began)
  unfold identityReadEnded
  split
  · split
    · split
      · exact hvalid _
      · exact hfailed _
    · split
      · exact hfailed _
      · exact h
  · exact h

/-- A tare that is done is at most 2 000 kg and bound to its head (R41). -/
theorem finishTare_settingsSound (head : HeadIdentity) (h : s.SettingsSound) : (finishTare head s).SettingsSound := by
  unfold finishTare
  dsimp only
  split
  · exact h.of_stored (failTare_stored _ _)
  · rename_i hkg
    obtain ⟨htrim, -⟩ := h.fits.calRecord
    have hset := h.setSettings
      (x := { s.settings with
        calRecord := { s.settings.calRecord with
          tare := grossMass (meanForce s.wlc.tare.sum 32), bound := some head.serial, tareDone := true } })
      { h.fits with calRecord := ⟨htrim, not_lt.1 hkg, fun _ => rfl⟩ }
    exact hset.of_stored (by simp [endTare])

theorem tareSample_settingsSound (head : HeadIdentity) (o : PollOutcome) (h : s.SettingsSound) :
    (tareSample head o s).SettingsSound := by
  unfold tareSample
  dsimp only
  split
  · split
    · split
      · exact finishTare_settingsSound head h
      · exact h
    · split
      · exact h.of_stored (failTare_stored _ _)
      · exact h
  · exact h

theorem pollCompleted_settingsSound (head : HeadIdentity) (number began : Nat) (o : PollOutcome)
    (h : s.SettingsSound) : (pollCompleted head number began o s).SettingsSound := by
  have hengine : (engineSample (publishedSample number began o s) (publishSample number began o s)).SettingsSound :=
    h.of_stored (engineSample_stored _ _)
  have htaken : (sampleTaken head number began o s).SettingsSound := tareSample_settingsSound head o hengine
  rw [pollCompleted_eq]
  split
  · exact htaken.of_stored (recoveryDecision_stored _)
  · exact htaken

theorem pollEnded_settingsSound (answer : Option SampleAnswer) (h : s.SettingsSound) :
    (pollEnded answer s).SettingsSound := by
  unfold pollEnded
  split
  · split
    · split <;> exact pollCompleted_settingsSound _ _ _ _ h
    · split
      · exact pollCompleted_settingsSound _ _ _ _ h
      · exact h
  · exact h

end Link

/-! #### The store, the supplies and the restart -/

section Store

variable {s : State}

/-- The image in a slot, if the slot is good, is of sound settings (R195). -/
abbrev SlotSound (slot : Option StoredImage) : Prop := ∀ m ∈ slot, m.image.Sound

/-- The snapshot of a write is of sound settings, and the slot it erases holds nothing (R196). -/
theorem storeOwner_settingsSound (s : State) (u : Unit) (h : s.SettingsSound) :
    (storeOwner u s).state.SettingsSound := by
  have ⟨hset, hslots, _⟩ := h
  have hstarted : (storeStarted s).SettingsSound := by
    refine ⟨hset, forall_getElem_set (p := fun _ => SlotSound) hslots nofun, fun w hw => ?_⟩
    cases hw
    exact hset
  unfold storeOwner
  split
  case h_1 | h_2 => exact h
  all_goals exact hstarted

/-- A slot that becomes good holds the image that was written (R197). -/
theorem storeCompleted_settingsSound (checkMatches : Bool) (h : s.SettingsSound) :
    (storeCompleted checkMatches s).SettingsSound := by
  have ⟨hset, hslots, hwrite⟩ := h
  unfold storeCompleted
  split
  · rename_i w hw
    split
    · split
      · refine ⟨hset, forall_getElem_set (p := fun _ => SlotSound) hslots fun m hm => ?_, nofun⟩
        cases hm
        exact hwrite w hw
      · exact ⟨hset, hslots, nofun⟩
    · exact h
  · exact h

theorem mainLost_settingsSound (h : s.SettingsSound) : (mainLost s).SettingsSound := by
  obtain ⟨hset, hslots, -⟩ := h
  exact ⟨hset, hslots, nofun⟩

/-- A COLD restart loads a stored image or the defaults (R198). -/
theorem coldSettings_sound {slots : Vector (Option StoredImage) 2}
    (h : ∀ i : Fin 2, SlotSound slots[i]) : (coldSettings slots).Sound := by
  unfold coldSettings
  split
  · rename_i m hm
    obtain ⟨i, -, hslot⟩ := Option.bind_eq_some_iff.1 hm
    exact h i m hslot
  · exact defaults_sound

theorem restarted_settingsSound (asked : Option RestartKind) (h : s.SettingsSound) :
    (restarted asked s).SettingsSound := by
  obtain ⟨hset, hslots, -⟩ := h
  have hafter (kind : RestartKind) : (settingsAfter kind s).Sound := by
    cases kind
    · exact hset
    · exact coldSettings_sound hslots
  have hblocks (kind : RestartKind) : (restartBlocks kind (settingsAfter kind s) s).SettingsSound :=
    ⟨hafter kind, hslots, nofun⟩
  exact (hblocks _).of_stored (latchIf_stored _ _ _)

theorem restartTaken_settingsSound (h : s.SettingsSound) : (restartTaken s).SettingsSound := by
  unfold restartTaken
  split
  · split
    · split
      · exact restarted_settingsSound _ h
      · exact h
    · exact h
  · exact restarted_settingsSound _ h

end Store

/-! #### Every command -/

section Commands

variable {dt : Nat} {s t : State}

theorem onSupply_settingsSound {act : State → State} (hact : ∀ s, s.SettingsSound → (act s).SettingsSound)
    (h : s.SettingsSound) (e : onSupply dt s act = .next t) : t.SettingsSound :=
  onSupply_keeps (P := State.SettingsSound) (fun _ _ h => h) hact h e

theorem execRequest_settingsSound {α : Type} {kind : Byte} {reader : Reader α} {owner : α → State → Answer}
    (howner : ∀ s x, s.SettingsSound → (owner x s).state.SettingsSound) (h : s.SettingsSound)
    (e : execRequest dt kind reader owner s = .next t) : t.SettingsSound :=
  execRequest_keeps (P := State.SettingsSound) (fun _ _ h => h) (fun _ _ h => h) howner h e

/-- An event that leaves the settings and the store alone keeps the settings. -/
theorem onSupply_settingsSound_of_stored {act : State → State} (hact : ∀ s, (act s).stored = s.stored)
    (h : s.SettingsSound) (e : onSupply dt s act = .next t) : t.SettingsSound :=
  onSupply_settingsSound (fun s hs => hs.of_stored (hact s)) h e

/-- A request whose owner leaves the settings and the store alone keeps the settings. -/
theorem execRequest_settingsSound_of_stored {α : Type} {kind : Byte} {reader : Reader α} {owner : α → State → Answer}
    (howner : ∀ s x, (owner x s).state.stored = s.stored) (h : s.SettingsSound)
    (e : execRequest dt kind reader owner s = .next t) : t.SettingsSound :=
  execRequest_settingsSound (fun s x hs => hs.of_stored (howner s x)) h e

theorem exec_settingsSound {c : Instr} (h : s.SettingsSound) (e : exec c s = .next t) : t.SettingsSound := by
  cases c with
  | detectLineChange dt level =>
    rw [← Host.Outcome.next.inj e]
    split
    · exact State.SettingsSound.of_stored (s := s.tick dt) h (lineChanged_stored _ _)
    · exact h
  | identityReadEnd => exact onSupply_settingsSound (fun _ => identityReadEnded_settingsSound _) h e
  | pollCompletion => exact onSupply_settingsSound (fun _ => pollEnded_settingsSound _) h e
  | storeWriteCompletion => exact onSupply_settingsSound (fun _ => storeCompleted_settingsSound _) h e
  | restart dt => exact Host.Outcome.next.inj e ▸ restartTaken_settingsSound (s := s.tick dt) h
  | mainSupplyLoss dt => exact Host.Outcome.next.inj e ▸ mainLost_settingsSound (s := s.tick dt) h
  | standbySupplyLoss => exact Host.Outcome.next.inj e ▸ h
  | standbySupplyReturn => exact Host.Outcome.next.inj e ▸ h
  | changeConfig => exact execRequest_settingsSound changeConfigOwner_settingsSound h e
  | sectionConfig => exact execRequest_settingsSound sectionConfigOwner_settingsSound h e
  | profileWrite => exact execRequest_settingsSound profileOwner_settingsSound h e
  | captureConfig => exact execRequest_settingsSound captureOwner_settingsSound h e
  | payloadLimit => exact execRequest_settingsSound payloadLimitOwner_settingsSound h e
  | zoneWrite => exact execRequest_settingsSound zoneWriteOwner_settingsSound h e
  | zoneEnable => exact execRequest_settingsSound zoneEnableOwner_settingsSound h e
  | limiterConfig => exact execRequest_settingsSound limiterOwner_settingsSound h e
  | ratedWrite => exact execRequest_settingsSound ratedOwner_settingsSound h e
  | calibrate => exact execRequest_settingsSound calibrateOwner_settingsSound h e
  | channelCalibration => exact execRequest_settingsSound channelOwner_settingsSound h e
  | geometryConfig => exact execRequest_settingsSound geometryOwner_settingsSound h e
  | storeSettings => exact execRequest_settingsSound storeOwner_settingsSound h e
  | scan => exact onSupply_settingsSound_of_stored (scanned_stored · _) h e
  | debounceExpiry => exact onSupply_settingsSound_of_stored debounceExpired_stored h e
  | powerOffTimeExpiry => exact onSupply_settingsSound_of_stored powerOffTimeExpired_stored h e
  | linkSettleExpiry => exact onSupply_settingsSound_of_stored linkSettleExpired_stored h e
  | identityRetry => exact onSupply_settingsSound_of_stored identityRetried_stored h e
  | poll => exact onSupply_settingsSound_of_stored pollMade_stored h e
  | recoveryLineRead => exact onSupply_settingsSound_of_stored (linesRead_stored · _ _) h e
  | clockPulseEnd => exact onSupply_settingsSound_of_stored (pulseEnded_stored · _) h e
  | demandExpiry => exact onSupply_settingsSound_of_stored (demandExpired_stored · _) h e
  | suspendTimerExpiry => exact onSupply_settingsSound_of_stored suspendExpired_stored h e
  | drivePeriod => exact onSupply_settingsSound_of_stored (drivePeriodTaken_stored · _) h e
  | driverTrip => exact onSupply_settingsSound_of_stored (driverTripped_stored · _) h e
  | supplySettleExpiry => exact onSupply_settingsSound_of_stored supplySettleExpired_stored h e
  | idleTimerExpiry => exact onSupply_settingsSound_of_stored idleTimerExpired_stored h e
  | byteReceived => exact onSupply_settingsSound_of_stored (act := byteTaken _ _) (fun _ => rfl) h e
  | gapExpiry => exact onSupply_settingsSound_of_stored gapExpired_stored h e
  | frameSent => exact onSupply_settingsSound_of_stored frameSent_stored h e
  | unknownKind => exact onSupply_settingsSound_of_stored unknownTaken_stored h e
  | drive => exact execRequest_settingsSound_of_stored driveOwner_stored h e
  | status => exact execRequest_settingsSound_of_stored statusOwner_stored h e
  | readChanges => exact execRequest_settingsSound_of_stored readChangesOwner_stored h e
  | clearChanges => exact execRequest_settingsSound_of_stored clearChangesOwner_stored h e
  | release => exact execRequest_settingsSound_of_stored releaseOwner_stored h e
  | faultClear => exact execRequest_settingsSound_of_stored faultClearOwner_stored h e
  | arm => exact execRequest_settingsSound_of_stored armOwner_stored h e
  | disarm => exact execRequest_settingsSound_of_stored disarmOwner_stored h e
  | assortment => exact execRequest_settingsSound_of_stored assortmentOwner_stored h e
  | readLifts => exact execRequest_settingsSound_of_stored readLiftsOwner_stored h e
  | readTotals => exact execRequest_settingsSound_of_stored readTotalsOwner_stored h e
  | undoLast => exact execRequest_settingsSound_of_stored undoLastOwner_stored h e
  | correct => exact execRequest_settingsSound_of_stored correctOwner_stored h e
  | reassign => exact execRequest_settingsSound_of_stored reassignOwner_stored h e
  | manualLift => exact execRequest_settingsSound_of_stored manualLiftOwner_stored h e
  | tripClose => exact execRequest_settingsSound_of_stored tripCloseOwner_stored h e
  | zoneRead => exact execRequest_settingsSound_of_stored zoneReadOwner_stored h e
  | linkStatus => exact execRequest_settingsSound_of_stored linkStatusOwner_stored h e
  | linkReset => exact execRequest_settingsSound_of_stored linkResetOwner_stored h e
  | tare => exact execRequest_settingsSound_of_stored tareOwner_stored h e
  | restartRequest => exact execRequest_settingsSound_of_stored restartOwner_stored h e

end Commands

/-- Settles O7: a request writes only fields in their ranges and enables only ordered zones, the weigh link keeps the
calibration record's, a stored image is of sound settings, and a restart loads such an image or the defaults. -/
theorem stepKeepsSettings : Obligations.StepKeepsSettings := fun _ _ h hstep =>
  step_keeps (P := State.SettingsSound) (fun _ _ h => h) (fun _ _ _ => exec_settingsSound) h hstep

end Sys2Proof.Machine
end

section
/-! ### The requests that write and read zones -/

namespace Sys2Proof.Machine

open Sys2Proof

/-! #### Which writes are taken -/

/-- A Zone write is refused for a field out of its range (R110). -/
theorem zoneInRange_eq_false_iff (r : ZoneWriteRequest) :
    zoneInRange r = false ↔
      (∃ x ∈ r.slewStart, x < -1900 ∨ 1900 < x) ∨ (∃ x ∈ r.slewStop, x < -1900 ∨ 1900 < x) ∨
        (∃ x ∈ r.reachMin, 12000 < x) ∨ (∃ x ∈ r.reachMax, 12000 < x) ∨ (∃ x ∈ r.slow, 1000 < x) ∨
          ∃ x ∈ r.guard, 300 < x := by
  rw [← Bool.not_eq_true]
  simp only [zoneInRange, Bool.and_eq_true, optRange_iff, optRangeInt_iff, Option.mem_def]
  grind

theorem zoneEmpty_eq_false_iff (r : ZoneWriteRequest) :
    zoneEmpty r = false ↔
      r.kind ≠ none ∨ r.chassis ≠ none ∨ r.slewStart ≠ none ∨ r.slewStop ≠ none ∨ r.reachMin ≠ none ∨
        r.reachMax ≠ none ∨ r.slow ≠ none ∨ r.guard ≠ none := by
  rw [← Bool.not_eq_true]
  simp only [zoneEmpty, Bool.and_eq_true, Option.isNone_iff_eq_none]
  tauto

theorem ordered_eq_false_iff (z : Zone) :
    z.ordered = false ↔ z.slewStop < z.slewStart ∨ z.reachMax < z.reachMin := by
  simp only [Zone.ordered, Bool.and_eq_false_iff, decide_eq_false_iff_not, not_le]

section Owner

variable {s : State} {i : Fin 8}

theorem zoneWriteOwner_of_bad {r : ZoneWriteRequest} (h : 7 < r.zone ∨ zoneInRange r = false) :
    zoneWriteOwner r s = refuse .badField s := by
  rcases h with hzone | hrange
  · simp [zoneWriteOwner, finOf_of_le (n := 8) hzone]
  · unfold zoneWriteOwner
    split
    · rfl
    · simp [hrange]

theorem zoneWriteOwner_of_enabled {r : ZoneWriteRequest} (hi : r.zone = i.val) (hrange : zoneInRange r = true)
    (hfields : zoneEmpty r = false) (hon : s.settings.zones[i].enable = true) :
    zoneWriteOwner r s = refuse .state s := by
  simp only [zoneWriteOwner, hi, finOf_val, hrange, hfields, hon]
  rfl

theorem zoneWriteOwner_of_free {r : ZoneWriteRequest} (hi : r.zone = i.val) (hrange : zoneInRange r = true)
    (hfree : zoneEmpty r = true ∨ s.settings.zones[i].enable = false) :
    zoneWriteOwner r s =
      answerDone (s.putZone i (zoneApply r s.settings.zones[i])) (.zone (zoneApply r s.settings.zones[i])) := by
  have hnot : (!zoneEmpty r && s.settings.zones[i].enable) = false := by rcases hfree with h | h <;> rw [h] <;> simp
  simp only [zoneWriteOwner, hi, finOf_val, hrange, hnot]
  rfl

theorem zoneEnableOwner_of_none {r : ZoneEnableRequest} (h : 7 < r.zone) :
    zoneEnableOwner r s = refuse .badField s := by
  simp [zoneEnableOwner, finOf_of_le (n := 8) h]

theorem zoneEnableOwner_eq {r : ZoneEnableRequest} (hi : r.zone = i.val) :
    zoneEnableOwner r s =
      if r.enable = true ∧ s.settings.zones[i].enable = false ∧ s.settings.zones[i].ordered = false then
        refuse .badField s
      else answerDone (s.putZone i { s.settings.zones[i] with enable := r.enable }) .none := by
  simp only [zoneEnableOwner, hi, finOf_val, Bool.and_eq_true, Bool.not_eq_true', and_assoc]

theorem zoneReadOwner_of_none {n : Nat} (h : 7 < n) : zoneReadOwner n s = refuse .badField s := by
  simp [zoneReadOwner, finOf_of_le (n := 8) h]

theorem zoneReadOwner_of_zone : zoneReadOwner i.val s = answerDone s (.zoneRead (s.zoneReply i)) := by
  simp [zoneReadOwner]

end Owner

/-! #### The guard that a read shows -/

section Guard

variable {slew start stop : Int} {z : Zone} {e : ZoneEval}

theorem guardOf_of_not_shown
    (h : z.kind ≠ .stop ∨ e.armed = false ∨ e.membership ≠ .outZone ∨ z.slewStop < z.slewStart) :
    guardOf slew z e = none := by
  refine if_neg ?_
  simp only [Bool.and_eq_true, decide_eq_true_iff]
  rintro ⟨⟨⟨hkind, harmed⟩, hout⟩, hordered⟩
  rcases h with h | h | h | h
  · exact h hkind
  · exact absurd harmed (by simp [h])
  · exact h hout
  · exact absurd hordered (not_le.2 h)

/-- The guard of an armed STOP zone that does not contain the tip, by the side the tip is on (R106, R113). -/
theorem guardOf_of_shown (hkind : z.kind = .stop) (harmed : e.armed = true) (hout : e.membership = .outZone)
    (hordered : z.slewStart ≤ z.slewStop) (hbounds : e.bounds = some (start, stop)) :
    guardOf slew z e =
      if slew < start then
        some { side := .above, delta := (start - slew).toNat, factor := guardFactor (start - slew).toNat z.guard }
      else if stop < slew then
        some { side := .below, delta := (slew - stop).toNat, factor := guardFactor (slew - stop).toNat z.guard }
      else none := by
  simp [guardOf, hkind, harmed, hout, hordered, hbounds]

end Guard

/-! #### The three requests, next to be taken -/

section Asked

variable {s : State} {tag : Byte} {fields : List Byte} {rest : List InFrame} {i : Fin 8} (dt : Nat)

theorem exec_zoneWrite_asked {r : ZoneWriteRequest} (h : s.asked 0x40#8 tag fields rest)
    (hr : decodeAll readZoneWrite fields = some r) :
    exec (.zoneWrite dt) s =
      .next
        (putReply s.clp.outbound.length { kind := 0x40#8, tag := tag, fields := fields }
          (zoneWriteOwner r (takenState dt { kind := 0x40#8, tag := tag, fields := fields } rest s))) :=
  asked_decoded zoneWriteOwner h hr

theorem exec_zoneWrite_bad {r : ZoneWriteRequest} (h : s.asked 0x40#8 tag fields rest)
    (hr : decodeAll readZoneWrite fields = some r) (hbad : 7 < r.zone ∨ zoneInRange r = false) :
    exec (.zoneWrite dt) s = .next (s.replied dt rest 0x40#8 tag .badField .none) := by
  rw [exec_zoneWrite_asked dt h hr, zoneWriteOwner_of_bad hbad, putReply_refuse]

theorem exec_zoneWrite_enabled {r : ZoneWriteRequest} (h : s.asked 0x40#8 tag fields rest)
    (hr : decodeAll readZoneWrite fields = some r) (hi : r.zone = i.val) (hrange : zoneInRange r = true)
    (hfields : zoneEmpty r = false) (hon : s.settings.zones[i].enable = true) :
    exec (.zoneWrite dt) s = .next (s.replied dt rest 0x40#8 tag .state .none) := by
  rw [exec_zoneWrite_asked dt h hr, zoneWriteOwner_of_enabled hi hrange hfields (by exact hon), putReply_refuse]

theorem exec_zoneWrite_free {r : ZoneWriteRequest} (h : s.asked 0x40#8 tag fields rest)
    (hr : decodeAll readZoneWrite fields = some r) (hi : r.zone = i.val) (hrange : zoneInRange r = true)
    (hfree : zoneEmpty r = true ∨ s.settings.zones[i].enable = false) :
    exec (.zoneWrite dt) s =
      .next
        { s with
          now := s.now + dt
          settings := { s.settings with zones := s.settings.zones.set i (zoneApply r s.settings.zones[i]) }
          clp := s.clp.answered rest 0x40#8 tag .done (.zone (zoneApply r s.settings.zones[i])) } := by
  rw [exec_zoneWrite_asked dt h hr, zoneWriteOwner_of_free hi hrange (by exact hfree)]
  exact congrArg _ (putReply_settings ..)

theorem exec_zoneEnable_asked {r : ZoneEnableRequest} (h : s.asked 0x41#8 tag fields rest)
    (hr : decodeAll readZoneEnable fields = some r) :
    exec (.zoneEnable dt) s =
      .next
        (putReply s.clp.outbound.length { kind := 0x41#8, tag := tag, fields := fields }
          (zoneEnableOwner r (takenState dt { kind := 0x41#8, tag := tag, fields := fields } rest s))) :=
  asked_decoded zoneEnableOwner h hr

theorem exec_zoneEnable_none {r : ZoneEnableRequest} (h : s.asked 0x41#8 tag fields rest)
    (hr : decodeAll readZoneEnable fields = some r) (hzone : 7 < r.zone) :
    exec (.zoneEnable dt) s = .next (s.replied dt rest 0x41#8 tag .badField .none) := by
  rw [exec_zoneEnable_asked dt h hr, zoneEnableOwner_of_none hzone, putReply_refuse]

/-- An enable of a disabled zone out of order is refused, any other is taken (R111, R112). -/
theorem exec_zoneEnable_zone {r : ZoneEnableRequest} (h : s.asked 0x41#8 tag fields rest)
    (hr : decodeAll readZoneEnable fields = some r) (hi : r.zone = i.val) {turned : Prop}
    (hturned : turned ↔
      r.enable = true ∧ s.settings.zones[i].enable = false ∧ s.settings.zones[i].ordered = false) :
    (turned → exec (.zoneEnable dt) s = .next (s.replied dt rest 0x41#8 tag .badField .none)) ∧
      (¬turned →
        exec (.zoneEnable dt) s =
          .next
            { s with
              now := s.now + dt
              settings :=
                { s.settings with
                  zones := s.settings.zones.set i { s.settings.zones[i] with enable := r.enable } }
              clp := s.clp.answered rest 0x41#8 tag .done .none }) := by
  rw [exec_zoneEnable_asked dt h hr, zoneEnableOwner_eq hi, takenState_settings, hturned]
  refine ⟨fun hbad => ?_, fun hgood => ?_⟩
  · rw [if_pos hbad, putReply_refuse]
  · rw [if_neg hgood]
    exact congrArg _ (putReply_settings ..)

theorem exec_zoneRead_asked {n : Byte} (h : s.asked 0x42#8 tag [n] rest) :
    exec (.zoneRead dt) s =
      .next
        (putReply s.clp.outbound.length { kind := 0x42#8, tag := tag, fields := [n] }
          (zoneReadOwner n.toNat (takenState dt { kind := 0x42#8, tag := tag, fields := [n] } rest s))) :=
  asked_decoded zoneReadOwner h rfl

theorem exec_zoneRead_none {n : Byte} (h : s.asked 0x42#8 tag [n] rest) (hzone : 7 < n.toNat) :
    exec (.zoneRead dt) s = .next (s.replied dt rest 0x42#8 tag .badField .none) := by
  rw [exec_zoneRead_asked dt h, zoneReadOwner_of_none hzone, putReply_refuse]

theorem exec_zoneRead_zone {n : Byte} (h : s.asked 0x42#8 tag [n] rest) (hi : n.toNat = i.val) :
    exec (.zoneRead dt) s = .next (s.replied dt rest 0x42#8 tag .done (.zoneRead (s.zoneReply i))) := by
  rw [exec_zoneRead_asked dt h, hi, zoneReadOwner_of_zone]
  exact congrArg _ (putReply_same ..)

end Asked

/-- Settles O48, a request at a time, and the guard of a read by the side the tip is on. -/
theorem zoneRequestsWriteZones : Obligations.ZoneRequestsWriteZones := by
  intro s dt tag fields rest
  refine ⟨fun r h hr bad hbad => ?_, fun r h hr => ⟨exec_zoneEnable_none dt h hr, fun i turned hi hturned => ?_⟩,
    fun n h => ⟨exec_zoneRead_none dt h, fun i z e hi hz he => ?_⟩⟩
  · rw [← zoneInRange_eq_false_iff] at hbad
    refine ⟨fun hb => exec_zoneWrite_bad dt h hr (hbad.1 hb), fun i z any hgood hi hz hany => ?_⟩
    obtain rfl : z = zoneApply r s.settings.zones[i] := hz
    rw [← zoneEmpty_eq_false_iff] at hany
    have hrange : zoneInRange r = true := by
      rw [hbad, not_or, Bool.not_eq_false] at hgood
      exact hgood.2
    refine ⟨fun hfields hon => exec_zoneWrite_enabled dt h hr hi hrange (hany.1 hfields) hon, fun hfree => ?_⟩
    rw [hany, Bool.not_eq_false] at hfree
    exact exec_zoneWrite_free dt h hr hi hrange hfree
  · rw [← ordered_eq_false_iff] at hturned
    exact exec_zoneEnable_zone dt h hr hi hturned
  · subst hz he
    refine ⟨_, exec_zoneRead_zone dt h hi, rfl, rfl, rfl, rfl, rfl, rfl, rfl, rfl, rfl, rfl, rfl, rfl,
      guardOf_of_not_shown, fun start stop d hkind harmed hout hordered hbounds => ?_⟩
    have hguard := guardOf_of_shown (slew := s.ssu.record.slew) hkind harmed hout hordered hbounds
    refine ⟨fun ⟨habove, hd⟩ => ?_, fun ⟨hstart, hbelow, hd⟩ => ?_, fun hstart hstop => ?_⟩
    · rw [if_pos habove, ← hd] at hguard
      exact hguard
    · rw [if_neg (not_lt.2 hstart), if_pos hbelow, ← hd] at hguard
      exact hguard
    · rw [if_neg (not_lt.2 hstart), if_neg (not_lt.2 hstop)] at hguard
      exact hguard

end Sys2Proof.Machine
end

section
/-! ### The evaluation of the zones at a scan -/

namespace Sys2Proof.Machine

open Sys2Proof

/-! #### The zones of the table by their numbers -/

theorem mem_zones_iff {zones : Vector Zone 8} {z : Zone} : z ∈ zones.toList ↔ ∃ i : Fin 8, zones[i] = z := by
  rw [Vector.mem_toList_iff, Vector.mem_iff_getElem, Fin.exists_iff]
  rfl

theorem any_zones_iff (zones : Vector Zone 8) (p : Zone → Bool) :
    zones.toList.any p = true ↔ ∃ i : Fin 8, p zones[i] = true := by
  simp only [List.any_eq_true, mem_zones_iff, exists_exists_eq_and]

theorem mem_filterMap_zones {zones : Vector Zone 8} {g : Zone → Option Nat} {f : Nat} :
    f ∈ zones.toList.filterMap g ↔ ∃ i : Fin 8, g zones[i] = some f := by
  simp only [List.mem_filterMap, mem_zones_iff, exists_exists_eq_and]

/-- The smallest of the factors that some zones give, none above 1 000‰: 1 000‰ stands for no factor at all. -/
theorem minFactor_of_zones {l : List Nat} {gives : Fin 8 → Nat → Prop} (hmem : ∀ f, f ∈ l ↔ ∃ i, gives i f)
    (hle : ∀ f ∈ l, f ≤ 1000) :
    (∀ i f, gives i f → minFactor l ≤ f) ∧
      ((∃ i, gives i (minFactor l)) ∨ (minFactor l = 1000 ∧ ¬∃ i f, gives i f)) := by
  obtain ⟨-, hmin, hleast⟩ := minFactor_spec l
  refine ⟨fun i f hf => hmin f ((hmem f).2 ⟨i, hf⟩), ?_⟩
  by_cases hsome : ∃ i f, gives i f
  · left
    obtain ⟨i, f, hf⟩ := hsome
    have hin : f ∈ l := (hmem f).2 ⟨i, hf⟩
    refine (hmem _).1 (hleast.elim (fun htop => ?_) id)
    have hf' : minFactor l = f := le_antisymm (hmin f hin) (htop ▸ hle f hin)
    rwa [hf']
  · exact .inr ⟨hleast.resolve_right fun hin => hsome ((hmem _).1 hin |>.imp fun _ h => ⟨_, h⟩), hsome⟩

/-- The smallest slow factor of the zones that a test selects (R105, R108). -/
theorem minFactor_slow {zones : Vector Zone 8} (hzones : ∀ i : Fin 8, zones[i].Sound) (p : Zone → Bool) :
    (∀ i : Fin 8, p zones[i] = true → minFactor ((zones.toList.filter p).map Zone.slow) ≤ zones[i].slow) ∧
      ((∃ i : Fin 8, p zones[i] = true ∧ minFactor ((zones.toList.filter p).map Zone.slow) = zones[i].slow) ∨
        (minFactor ((zones.toList.filter p).map Zone.slow) = 1000 ∧ ¬∃ i : Fin 8, p zones[i] = true)) := by
  have hmem (f : Nat) :
      f ∈ (zones.toList.filter p).map Zone.slow ↔ ∃ i : Fin 8, p zones[i] = true ∧ zones[i].slow = f := by
    simp only [List.mem_map, List.mem_filter, mem_zones_iff, and_assoc, exists_exists_eq_and]
  have hle : ∀ f ∈ (zones.toList.filter p).map Zone.slow, f ≤ 1000 := by
    intro f hf
    obtain ⟨i, -, rfl⟩ := (hmem f).1 hf
    obtain ⟨-, -, -, -, -, hslow, -⟩ := hzones i
    exact hslow
  obtain ⟨hmin, hleast⟩ := minFactor_of_zones hmem hle
  exact ⟨fun i hp => hmin i _ ⟨hp, rfl⟩,
    hleast.imp (fun ⟨i, hp, hf⟩ => ⟨i, hp, hf.symm⟩) (And.imp id fun hnone ⟨i, hp⟩ => hnone ⟨i, _, hp, rfl⟩)⟩

/-! #### The bounds and the membership of a zone -/

section Zone

variable {r : ScanRecord} {z : Zone}

theorem effectiveBounds_rear (h : z.chassis = .rear) :
    (effectiveBounds r z).1 = z.slewStart ∧ (effectiveBounds r z).2 = z.slewStop := by
  simp [effectiveBounds, h]

theorem effectiveBounds_front (h : z.chassis = .front) (hartic : r.stateOf .artic ≠ .lost) :
    (effectiveBounds r z).1 = max (-1900) (min 1900 (z.slewStart + r.artic)) ∧
      (effectiveBounds r z).2 = max (-1900) (min 1900 (z.slewStop + r.artic)) := by
  simp [effectiveBounds, h, hartic, clampSlew, clampInt_eq]

theorem effectiveBounds_lost (h : z.chassis = .front) (hartic : r.stateOf .artic = .lost) :
    (effectiveBounds r z).1 = max (-1900) (min 1900 (z.slewStart - 450)) ∧
      (effectiveBounds r z).2 = max (-1900) (min 1900 (z.slewStop + 450)) := by
  simp [effectiveBounds, h, hartic, clampSlew, clampInt_eq]

theorem bandHolds_iff (reach : Nat) : z.bandHolds reach = true ↔ z.reachMin ≤ reach ∧ reach ≤ z.reachMax := by
  simp [Zone.bandHolds]

theorem zoneArmed_iff : zoneArmed r z = true ↔ z.kind = .stop ∧ z.reachMin ≤ r.reach ∧ r.reach ≤ z.reachMax := by
  rw [zoneArmed, Bool.and_eq_true, beq_iff_eq, bandHolds_iff]

/-- A reach that lies in the band puts the band in order, so only the slew fields can stand in the way (R103, R111). -/
theorem containsTip_iff :
    containsTip r z = true ↔
      z.slewStart ≤ z.slewStop ∧ (effectiveBounds r z).1 ≤ r.slew ∧ r.slew ≤ (effectiveBounds r z).2 ∧
        z.reachMin ≤ r.reach ∧ r.reach ≤ z.reachMax := by
  simp only [containsTip, Zone.ordered, Bool.and_eq_true, decide_eq_true_iff, bandHolds_iff]
  omega

/-- A STOP zone that contains the tip is armed. -/
theorem zoneArmed_of_containsTip (h : containsTip r z = true) : zoneArmed r z = true ↔ z.kind = .stop := by
  obtain ⟨-, -, -, hband⟩ := containsTip_iff.1 h
  rw [zoneArmed_iff, and_iff_left hband]

/-! #### The guard factors -/

theorem guardFactor_le (delta guard : Nat) : guardFactor delta guard ≤ 1000 := by
  unfold guardFactor
  split
  · exact le_rfl
  · exact Nat.div_le_of_le_mul (Nat.mul_le_mul_right 1000 (by omega))

/-- The guard factor at a distance that is not negative, as R106 writes it. -/
theorem guardFactor_toNat {delta : Int} (h : 0 ≤ delta) (guard : Nat) :
    (guardFactor delta.toNat guard : Int) = if (guard : Int) ≤ delta then 1000 else delta * 1000 / guard := by
  lift delta to Nat using h
  simp only [guardFactor, Int.toNat_natCast, Int.ofNat_le]
  split <;> simp

theorem guardA_eq_some_iff {f : Nat} :
    guardA r z = some f ↔
      z.enable = true ∧ zoneArmed r z = true ∧ ¬containsTip r z = true ∧ r.slew < (effectiveBounds r z).1 ∧
        (f : Int) =
          if (z.guard : Int) ≤ (effectiveBounds r z).1 - r.slew then 1000
          else ((effectiveBounds r z).1 - r.slew) * 1000 / z.guard := by
  simp only [guardA, Option.ite_none_right_eq_some, Option.some.injEq, Bool.and_eq_true, Bool.not_eq_true',
    Bool.not_eq_true, decide_eq_true_iff, and_assoc]
  refine and_congr_right fun _ => and_congr_right fun _ => and_congr_right fun _ => and_congr_right fun hside => ?_
  rw [← guardFactor_toNat (by omega), Nat.cast_inj, eq_comm]

theorem guardB_eq_some_iff {f : Nat} :
    guardB r z = some f ↔
      z.enable = true ∧ zoneArmed r z = true ∧ ¬containsTip r z = true ∧ (effectiveBounds r z).2 < r.slew ∧
        (f : Int) =
          if (z.guard : Int) ≤ r.slew - (effectiveBounds r z).2 then 1000
          else (r.slew - (effectiveBounds r z).2) * 1000 / z.guard := by
  simp only [guardB, Option.ite_none_right_eq_some, Option.some.injEq, Bool.and_eq_true, Bool.not_eq_true',
    Bool.not_eq_true, decide_eq_true_iff, and_assoc]
  refine and_congr_right fun _ => and_congr_right fun _ => and_congr_right fun _ => and_congr_right fun hside => ?_
  rw [← guardFactor_toNat (by omega), Nat.cast_inj, eq_comm]

theorem guardA_le {f : Nat} (h : guardA r z = some f) : f ≤ 1000 := by
  unfold guardA at h
  split at h
  · exact Option.some.inj h ▸ guardFactor_le _ _
  · cases h

theorem guardB_le {f : Nat} (h : guardB r z = some f) : f ≤ 1000 := by
  unfold guardB at h
  split at h
  · exact Option.some.inj h ▸ guardFactor_le _ _
  · cases h

end Zone

/-- The smallest factor of the zones by a guard of one direction (R106). -/
theorem minFactor_guard {zones : Vector Zone 8} {guard : Zone → Option Nat}
    (hle : ∀ z f, guard z = some f → f ≤ 1000) {gives : Fin 8 → Nat → Prop}
    (hgives : ∀ i f, gives i f ↔ guard zones[i] = some f) :
    (∀ i f, gives i f → minFactor (zones.toList.filterMap guard) ≤ f) ∧
      ((∃ i, gives i (minFactor (zones.toList.filterMap guard))) ∨
        (minFactor (zones.toList.filterMap guard) = 1000 ∧ ¬∃ i f, gives i f)) := by
  refine minFactor_of_zones (fun f => ?_) fun f hf => ?_
  · simp only [hgives, mem_filterMap_zones]
  · obtain ⟨i, hi⟩ := mem_filterMap_zones.1 hf
    exact hle _ f hi

/-! #### The factors and flags of all zones -/

section Table

variable {r : ScanRecord} {zones : Vector Zone 8}

theorem bunkHolds_iff :
    bunkHolds r zones = true ↔
      ∃ i : Fin 8, zones[i].enable = true ∧ zones[i].kind = .bunk ∧ containsTip r zones[i] = true := by
  simp only [bunkHolds, any_zones_iff, Bool.and_eq_true, beq_iff_eq, and_assoc]

/-- The intrusion flag needs no word of the armed state: a STOP zone that contains the tip is armed (R107). -/
theorem intrudes_iff :
    intrudes r zones = true ↔
      ∃ i : Fin 8, zones[i].enable = true ∧ zones[i].kind = .stop ∧ containsTip r zones[i] = true := by
  simp only [intrudes, any_zones_iff, Bool.and_eq_true, and_assoc]
  exact exists_congr fun i => and_congr_right fun _ => and_congr_left zoneArmed_of_containsTip

theorem slowFactor_spec (hzones : ∀ i : Fin 8, zones[i].Sound) :
    (∀ i : Fin 8, zones[i].enable = true → zones[i].kind = .slow → containsTip r zones[i] = true →
        slowFactor r zones ≤ zones[i].slow) ∧
      ((∃ i : Fin 8, zones[i].enable = true ∧ zones[i].kind = .slow ∧ containsTip r zones[i] = true ∧
          slowFactor r zones = zones[i].slow) ∨
        (slowFactor r zones = 1000 ∧
          ¬∃ i : Fin 8, zones[i].enable = true ∧ zones[i].kind = .slow ∧ containsTip r zones[i] = true)) := by
  simpa only [slowFactor, Bool.and_eq_true, beq_iff_eq, and_assoc, and_imp] using
    minFactor_slow hzones fun z => z.enable && z.kind == .slow && containsTip r z

/-- The slow factor of an invalid tip: the smallest that an enabled SLOW zone has (R108). -/
theorem worstSlow_least (hzones : ∀ i : Fin 8, zones[i].Sound) :
    (∀ i : Fin 8, zones[i].enable = true → zones[i].kind = .slow → worstSlow zones ≤ zones[i].slow) ∧
      ((∃ i : Fin 8, zones[i].enable = true ∧ zones[i].kind = .slow ∧ worstSlow zones = zones[i].slow) ∨
        (worstSlow zones = 1000 ∧ ¬∃ i : Fin 8, zones[i].enable = true ∧ zones[i].kind = .slow)) := by
  simpa only [worstSlow, Bool.and_eq_true, beq_iff_eq, and_assoc, and_imp] using
    minFactor_slow hzones fun z => z.enable && z.kind == .slow

end Table

/-! #### The evaluation record -/

section Record

variable {r : ScanRecord} {zones : Vector Zone 8} {held : Bool}

theorem evaluateZones_zones (i : Fin 8) : (evaluateZones r zones held).zones[i] = evalZone r zones[i] := by
  unfold evaluateZones
  dsimp only
  split <;> simp

theorem evaluateZones_bounds (i : Fin 8) :
    (evaluateZones r zones held).zones[i].bounds = some (effectiveBounds r zones[i]) := by
  rw [evaluateZones_zones, evalZone]
  split <;> rfl

theorem evaluateZones_armed (h : r.tipValid = true) (i : Fin 8) :
    (evaluateZones r zones held).zones[i].armed = zoneArmed r zones[i] := by
  rw [evaluateZones_zones, evalZone, if_pos h]

theorem evaluateZones_membership (h : r.tipValid = true) (i : Fin 8) :
    ((evaluateZones r zones held).zones[i].membership = .inZone ↔ containsTip r zones[i] = true) ∧
      ((evaluateZones r zones held).zones[i].membership = .outZone ↔ ¬containsTip r zones[i] = true) := by
  rw [evaluateZones_zones, evalZone, if_pos h]
  cases containsTip r zones[i] <;> simp

theorem evaluateZones_bunk (h : r.tipValid = true) :
    ((evaluateZones r zones held).bunk = .inside ↔ bunkHolds r zones = true) ∧
      ((evaluateZones r zones held).bunk = .outside ↔ ¬bunkHolds r zones = true) := by
  cases hb : bunkHolds r zones <;> simp [evaluateZones, h, hb]

theorem evaluateZones_valid (h : r.tipValid = true) :
    (evaluateZones r zones held).slow = slowFactor r zones ∧
      (evaluateZones r zones held).slewA = minFactor (zones.toList.filterMap (guardA r)) ∧
      (evaluateZones r zones held).slewB = minFactor (zones.toList.filterMap (guardB r)) ∧
      (evaluateZones r zones held).intrusion = intrudes r zones := by
  simp [evaluateZones, h]

theorem evaluateZones_zone_invalid (h : r.tipValid = false) (i : Fin 8) :
    (evaluateZones r zones held).zones[i].membership = .unknown ∧
      (evaluateZones r zones held).zones[i].armed = false := by
  rw [evaluateZones_zones, evalZone, if_neg (by simp [h])]
  exact ⟨rfl, rfl⟩

theorem evaluateZones_invalid (h : r.tipValid = false) :
    (evaluateZones r zones held).bunk = .unknown ∧ (evaluateZones r zones held).slow = worstSlow zones ∧
      (evaluateZones r zones held).slewA = worstSlew zones ∧ (evaluateZones r zones held).slewB = worstSlew zones ∧
      (evaluateZones r zones held).intrusion = held := by
  simp [evaluateZones, h]

end Record

/-! #### The scan -/

theorem scanned_evm (raw : Vector Nat 9) (s : State) :
    (scanned raw s).evm = evaluateZones (scanned raw s).ssu.record s.settings.zones s.evm.intrusion := by
  simp [scanned, scanZones]

/-- The record that a scan publishes shows the channels as they then stand (R15). -/
theorem scanned_stateOf (raw : Vector Nat 9) (s : State) (c : Channel) :
    (scanned raw s).ssu.record.stateOf c = (scanned raw s).ssu.channels[c.index].state := by
  simp [ScanRecord.stateOf, scanRecordOf]

/-- Settles O54: the evaluation is `evaluateZones` of the record just published, with a valid tip and with an invalid
one. -/
theorem scanEvaluatesZones : Obligations.ScanEvaluatesZones := by
  intro s dt raw hmain hs
  have hzones : ∀ i : Fin 8, s.settings.zones[i].Sound := ((Settings.sound_iff_fits _).1 hs).zones
  have hartic := scanned_stateOf raw (s.tick dt) .artic
  have hevm : (scanned raw (s.tick dt)).evm =
      evaluateZones (scanned raw (s.tick dt)).ssu.record s.settings.zones s.evm.intrusion :=
    scanned_evm raw (s.tick dt)
  refine ⟨scanned raw (s.tick dt),
    fun i => (effectiveBounds (scanned raw (s.tick dt)).ssu.record s.settings.zones[i]).1,
    fun i => (effectiveBounds (scanned raw (s.tick dt)).ssu.record s.settings.zones[i]).2,
    fun i => containsTip (scanned raw (s.tick dt)).ssu.record s.settings.zones[i] = true, fun i => s.settings.zones[i],
    onSupply_main dt s _ hmain, fun i => ?_, fun hvalid => ?_, fun hinvalid => ?_,
    (scanned_clp raw (s.tick dt)).trans (State.scanLatches_tick_clp s _ dt)⟩
  all_goals rw [hevm]
  · exact ⟨rfl, evaluateZones_bounds i, effectiveBounds_rear,
      fun hfront hgood => effectiveBounds_front hfront (hartic ▸ hgood),
      fun hfront hlost => effectiveBounds_lost hfront (hartic.trans hlost), containsTip_iff⟩
  · obtain ⟨hslow, hslewA, hslewB, hintrusion⟩ := evaluateZones_valid (zones := s.settings.zones)
      (held := s.evm.intrusion) hvalid
    obtain ⟨hinside, houtside⟩ := evaluateZones_bunk (zones := s.settings.zones) (held := s.evm.intrusion) hvalid
    obtain ⟨hslowLe, hslowLeast⟩ := slowFactor_spec (r := (scanned raw (s.tick dt)).ssu.record) hzones
    rw [bunkHolds_iff] at hinside houtside
    rw [hslow, hslewA, hslewB, hintrusion]
    simp only [evaluateZones_armed hvalid]
    refine ⟨fun i => ?_, hinside, houtside, hslowLe, hslowLeast, fun factorA factorB hA hB => ?_, intrudes_iff⟩
    · obtain ⟨hin, hout⟩ := evaluateZones_membership (zones := s.settings.zones) (held := s.evm.intrusion) hvalid i
      exact ⟨hin, hout, zoneArmed_iff⟩
    · obtain ⟨hleA, hleastA⟩ := minFactor_guard (zones := s.settings.zones)
        (guard := guardA (scanned raw (s.tick dt)).ssu.record) (fun _ _ => guardA_le)
        fun i f => (hA i f).trans guardA_eq_some_iff.symm
      obtain ⟨hleB, hleastB⟩ := minFactor_guard (zones := s.settings.zones)
        (guard := guardB (scanned raw (s.tick dt)).ssu.record) (fun _ _ => guardB_le)
        fun i f => (hB i f).trans guardB_eq_some_iff.symm
      exact ⟨hleA, hleB, hleastA, hleastB⟩
  · obtain ⟨hbunk, hslow, hslewA, hslewB, hintrusion⟩ := evaluateZones_invalid (zones := s.settings.zones)
      (held := s.evm.intrusion) hinvalid
    obtain ⟨hslowLe, hslowLeast⟩ := worstSlow_least hzones
    rw [hbunk, hslow, hslewA, hslewB, hintrusion, worstSlew_eq]
    exact ⟨evaluateZones_zone_invalid hinvalid, rfl, rfl, hslowLe, hslowLeast,
      fun hstop => ⟨if_pos hstop, if_pos hstop⟩, fun hnone => ⟨if_neg hnone, if_neg hnone⟩⟩

end Sys2Proof.Machine
end

section
/-! ### What the commands away from the drive side leave of the factors, the shaper and the coil driver -/

namespace Sys2Proof.Machine

open Sys2Proof

/-- The factors of the zones and of the limiter, the shaper and the coil driver: the part of the state that forms the
outputs and drives the coils. -/
def State.driveSide (s : State) : EvalRecord × LimiterRecord × Vector DshSection 6 × Cds := (s.evm, s.mlm, s.dsh, s.cds)

section Updates

variable (s : State)

@[simp] theorem State.setSettings_driveSide (x : Settings) : (s.setSettings x).driveSide = s.driveSide := rfl
@[simp] theorem State.setWlc_driveSide (x : Wlc) : (s.setWlc x).driveSide = s.driveSide := rfl
@[simp] theorem State.setWce_driveSide (x : Wce) : (s.setWce x).driveSide = s.driveSide := rfl
@[simp] theorem State.setLt_driveSide (x : Trip) : (s.setLt x).driveSide = s.driveSide := rfl
@[simp] theorem State.setClp_driveSide (x : Clp) : (s.setClp x).driveSide = s.driveSide := rfl
@[simp] theorem State.setSsr_driveSide (x : Ssr) : (s.setSsr x).driveSide = s.driveSide := rfl
@[simp] theorem raiseReport_driveSide (r : Report) : (raiseReport r s).driveSide = s.driveSide := rfl
@[simp] theorem putReply_driveSide (place : Nat) (f : InFrame) (a : Answer) :
    (putReply place f a).driveSide = a.state.driveSide := rfl
@[simp] theorem takeFrame_driveSide (f : InFrame) (rest : List InFrame) :
    (takeFrame f rest s).driveSide = s.driveSide := rfl

@[simp] theorem State.ite_driveSide (p : Prop) [Decidable p] (a b : State) :
    (if p then a else b).driveSide = if p then a.driveSide else b.driveSide := apply_ite State.driveSide p a b

@[simp] theorem latchIf_driveSide (b : Bool) (src : ChangeSource) : (latchIf b src s).driveSide = s.driveSide := by
  simp [State.driveSide]

@[simp] theorem latch_driveSide (src : ChangeSource) : (latch src s).driveSide = s.driveSide :=
  latchIf_driveSide s true src

/-- What a demand event leaves standing holds the drive side. -/
theorem driveSide_of_standing {s t : State} (h : t.standing = s.standing) : t.driveSide = s.driveSide :=
  congrArg (fun x : Standing => (x.evm, x.mlm, x.dsh, x.cds)) h

end Updates

/-! #### The engine, the weigh link and the port -/

section Events

variable (s : State)

@[simp] theorem payloadTest_driveSide (before : PayloadState) : (payloadTest before s).driveSide = s.driveSide := by
  simp [payloadTest]

@[simp] theorem failTare_driveSide (reason : TareReason) : (failTare reason s).driveSide = s.driveSide :=
  driveSide_of_standing (failTare_standing s reason)

@[simp] theorem demandEvent_driveSide : (demandEvent s).driveSide = s.driveSide :=
  driveSide_of_standing (demandEvent_standing s)

@[simp] theorem endUnweighed_driveSide (reason : EndReason) : (endUnweighed reason s).driveSide = s.driveSide := rfl

@[simp] theorem engineSample_driveSide (x : Sample) : (engineSample x s).driveSide = s.driveSide := by
  rw [engineSample_frame]
  rfl

@[simp] theorem triggerArmed_driveSide : (triggerArmed s).driveSide = s.driveSide := by
  rw [triggerArmed_frame]
  rfl

theorem suspendExpired_driveSide : (suspendExpired s).driveSide = s.driveSide := by simp [suspendExpired]

@[simp] theorem linkLeft_driveSide : (linkLeft s).driveSide = s.driveSide := by simp [linkLeft, engineLinkLeft]

@[simp] theorem enterFailed_driveSide (cause : LinkCause) : (enterFailed cause s).driveSide = s.driveSide := by
  simp [enterFailed]

theorem lineChanged_driveSide (level : Bool) : (lineChanged level s).driveSide = s.driveSide := by simp [lineChanged]

theorem debounceExpired_driveSide : (debounceExpired s).driveSide = s.driveSide := by
  simp [debounceExpired, becameAbsent, enterAbsent, becamePresent, powerOn]

theorem powerOffTimeExpired_driveSide : (powerOffTimeExpired s).driveSide = s.driveSide := by
  unfold powerOffTimeExpired
  split <;> simp

theorem linkSettleExpired_driveSide : (linkSettleExpired s).driveSide = s.driveSide := by
  unfold linkSettleExpired
  split <;> simp [enterIdentifying]

@[simp] theorem compareSerial_driveSide (serial : Nat) : (compareSerial serial s).driveSide = s.driveSide := by
  simp [compareSerial]

@[simp] theorem identityValid_driveSide (head : HeadIdentity) : (identityValid head s).driveSide = s.driveSide := by
  simp [identityValid, enterRunning, makePoll]

@[simp] theorem identityFailed_driveSide (began : Nat) : (identityFailed began s).driveSide = s.driveSide := by
  simp [identityFailed]

theorem identityReadEnded_driveSide (answer : Option IdentityAnswer) :
    (identityReadEnded answer s).driveSide = s.driveSide := by
  unfold identityReadEnded
  split
  · split <;> simp
  · rfl

theorem identityRetried_driveSide : (identityRetried s).driveSide = s.driveSide := by
  unfold identityRetried
  split <;> simp

theorem pollMade_driveSide : (pollMade s).driveSide = s.driveSide := by
  unfold pollMade
  split <;> simp [makePoll]

@[simp] theorem finishTare_driveSide (head : HeadIdentity) : (finishTare head s).driveSide = s.driveSide := by
  simp [finishTare, endTare]

theorem tareSample_driveSide (head : HeadIdentity) (o : PollOutcome) :
    (tareSample head o s).driveSide = s.driveSide := by
  unfold tareSample
  split
  · split <;> simp
  · rfl

@[simp] theorem pollCompleted_driveSide (head : HeadIdentity) (number began : Nat) (o : PollOutcome) :
    (pollCompleted head number began o s).driveSide = s.driveSide := by
  have htaken : (sampleTaken head number began o s).driveSide = s.driveSide :=
    (tareSample_driveSide _ head o).trans (engineSample_driveSide _ _)
  simp [pollCompleted_eq, recoveryDecision, enterRecovering, htaken]

theorem pollEnded_driveSide (answer : Option SampleAnswer) : (pollEnded answer s).driveSide = s.driveSide := by
  unfold pollEnded
  split
  · split <;> simp
  · rfl

theorem linesRead_driveSide (clock data : Bool) : (linesRead clock data s).driveSide = s.driveSide := by
  unfold linesRead
  split <;> simp [enterIdentifying, sendPulse]

theorem pulseEnded_driveSide (data : Bool) : (pulseEnded data s).driveSide = s.driveSide := by
  unfold pulseEnded
  split <;> simp [enterIdentifying, sendPulse]

theorem gapExpired_driveSide : (gapExpired s).driveSide = s.driveSide := by
  unfold gapExpired
  split <;> simp

theorem frameSent_driveSide : (frameSent s).driveSide = s.driveSide := by
  unfold frameSent
  split <;> simp

theorem unknownTaken_driveSide : (unknownTaken s).driveSide = s.driveSide := by
  unfold unknownTaken
  split <;> simp

theorem storeCompleted_driveSide (checkMatches : Bool) : (storeCompleted checkMatches s).driveSide = s.driveSide := by
  unfold storeCompleted
  split <;> simp

end Events

/-! #### The requests of the other owners -/

section Requests

variable (s : State)

theorem statusOwner_driveSide (page : Nat) : (statusOwner page s).state.driveSide = s.driveSide := by
  unfold statusOwner
  split <;> rfl

theorem readChangesOwner_driveSide (u : Unit) : (readChangesOwner u s).state.driveSide = s.driveSide := by
  unfold readChangesOwner
  split <;> rfl

theorem clearChangesOwner_driveSide (sources : SourceSet) :
    (clearChangesOwner sources s).state.driveSide = s.driveSide := rfl

theorem changeConfigOwner_driveSide (r : ChangeConfigRequest) :
    (changeConfigOwner r s).state.driveSide = s.driveSide := rfl

theorem sectionConfigOwner_driveSide (r : SectionConfigRequest) :
    (sectionConfigOwner r s).state.driveSide = s.driveSide := by
  unfold sectionConfigOwner
  split <;> simp [sectionConfigured]

theorem profileOwner_driveSide (r : ProfileRequest) : (profileOwner r s).state.driveSide = s.driveSide := by
  unfold profileOwner
  split
  · rfl
  · split <;> simp [profileWritten]

theorem armOwner_driveSide (u : Unit) : (armOwner u s).state.driveSide = s.driveSide := by
  unfold armOwner
  split <;> simp [armGripped]

theorem disarmOwner_driveSide (u : Unit) : (disarmOwner u s).state.driveSide = s.driveSide := by
  unfold disarmOwner
  split <;> simp

theorem captureOwner_driveSide (r : CaptureRequest) : (captureOwner r s).state.driveSide = s.driveSide := by
  simp [captureOwner]

theorem linkStatusOwner_driveSide (u : Unit) : (linkStatusOwner u s).state.driveSide = s.driveSide := rfl

theorem linkResetOwner_driveSide (u : Unit) : (linkResetOwner u s).state.driveSide = s.driveSide := by
  simp [linkResetOwner, resetLink]

theorem calibrateOwner_driveSide (r : CalibrateRequest) : (calibrateOwner r s).state.driveSide = s.driveSide := by
  simp [calibrateOwner]

theorem tareOwner_driveSide (u : Unit) : (tareOwner u s).state.driveSide = s.driveSide := by simp [tareOwner]

theorem storeOwner_driveSide (u : Unit) : (storeOwner u s).state.driveSide = s.driveSide := by
  unfold storeOwner
  split <;> rfl

theorem restartOwner_driveSide (kind : RestartKind) : (restartOwner kind s).state.driveSide = s.driveSide := rfl

theorem zoneWriteOwner_driveSide (r : ZoneWriteRequest) : (zoneWriteOwner r s).state.driveSide = s.driveSide := by
  unfold zoneWriteOwner
  split <;> simp [State.putZone]

theorem zoneEnableOwner_driveSide (r : ZoneEnableRequest) : (zoneEnableOwner r s).state.driveSide = s.driveSide := by
  unfold zoneEnableOwner
  split <;> simp [State.putZone]

theorem zoneReadOwner_driveSide (n : Nat) : (zoneReadOwner n s).state.driveSide = s.driveSide := by
  unfold zoneReadOwner
  split <;> rfl

theorem limiterOwner_driveSide (r : LimiterRequest) : (limiterOwner r s).state.driveSide = s.driveSide := by
  simp [limiterOwner, limiterConfigured]

theorem ratedOwner_driveSide (r : List (Option Nat)) : (ratedOwner r s).state.driveSide = s.driveSide := by
  simp [ratedOwner, ratedWritten]

theorem channelOwner_driveSide (r : ChannelRequest) : (channelOwner r s).state.driveSide = s.driveSide := by
  unfold channelOwner
  split
  · rfl
  · split <;> simp [calibrated]

theorem geometryOwner_driveSide (r : GeometryRequest) : (geometryOwner r s).state.driveSide = s.driveSide := by
  simp [geometryOwner, geometryConfigured]

theorem assortmentOwner_driveSide (r : Option Nat) : (assortmentOwner r s).state.driveSide = s.driveSide := by
  unfold assortmentOwner
  split
  · rfl
  · split <;> simp

theorem readLiftsOwner_driveSide (r : ReadLiftsRequest) : (readLiftsOwner r s).state.driveSide = s.driveSide := by
  simp [readLiftsOwner]

theorem readTotalsOwner_driveSide (r : ReadTotalsRequest) : (readTotalsOwner r s).state.driveSide = s.driveSide := by
  unfold readTotalsOwner
  split
  · rfl
  · split
    · rfl
    · split <;> simp

theorem undoLastOwner_driveSide (u : Unit) : (undoLastOwner u s).state.driveSide = s.driveSide := by
  unfold undoLastOwner
  split <;> simp

theorem correctOwner_driveSide (r : CorrectRequest) : (correctOwner r s).state.driveSide = s.driveSide := by
  unfold correctOwner
  split
  · rfl
  · split <;> simp

theorem reassignOwner_driveSide (r : ReassignRequest) : (reassignOwner r s).state.driveSide = s.driveSide := by
  unfold reassignOwner
  split
  · split <;> simp
  · rfl

theorem manualLiftOwner_driveSide (r : ManualRequest) : (manualLiftOwner r s).state.driveSide = s.driveSide := by
  unfold manualLiftOwner
  split
  · rename_i a _ _
    have hfiled := driveSide_of_standing (fileLift_standing s r.direction a r.mass manualFlags)
    split
    · rename_i s1 ans e
      simpa [e] using hfiled
    · rfl
  · rfl

theorem tripCloseOwner_driveSide (u : Unit) : (tripCloseOwner u s).state.driveSide = s.driveSide := rfl

theorem payloadLimitOwner_driveSide (r : Option Nat) : (payloadLimitOwner r s).state.driveSide = s.driveSide := by
  unfold payloadLimitOwner
  split <;> simp

end Requests

end Sys2Proof.Machine
end

section
/-! ### Which commands move the drive side -/

namespace Sys2Proof.Machine

open Sys2Proof

/-- The commands that can move the factors, the shaper or the coil driver: the scan, the drive period, the events of the
demands, the coils and the supply, the requests of the shaper and the coil driver that act on them, and the restart. -/
def movesDriveSide (c : Instr) : Bool :=
  match c with
  | .scan _ _ | .demandExpiry _ _ | .drivePeriod _ _ | .driverTrip _ _ | .supplySettleExpiry _ | .idleTimerExpiry _
  | .drive _ | .release _ | .faultClear _ | .restart _ => true
  | _ => false

section Commands

variable {dt : Nat} {s t : State}

theorem onSupply_driveSide {act : State → State} (hact : ∀ s, (act s).driveSide = s.driveSide)
    (e : onSupply dt s act = .next t) : t.driveSide = s.driveSide :=
  onSupply_keeps (P := fun x => x.driveSide = s.driveSide) (fun _ _ h => h) (fun x h => (hact x).trans h) rfl e

theorem execRequest_driveSide {α : Type} {kind : Byte} {reader : Reader α} {owner : α → State → Answer}
    (howner : ∀ s x, (owner x s).state.driveSide = s.driveSide) (e : execRequest dt kind reader owner s = .next t) :
    t.driveSide = s.driveSide :=
  execRequest_keeps (P := fun x => x.driveSide = s.driveSide) (fun _ _ h => h) (fun _ _ h => h)
    (fun x a h => (howner x a).trans h) rfl e

/-- No other command moves the drive side. -/
theorem exec_driveSide {c : Instr} (hc : movesDriveSide c = false) (e : exec c s = .next t) :
    t.driveSide = s.driveSide := by
  cases c with
  | scan | demandExpiry | drivePeriod | driverTrip | supplySettleExpiry | idleTimerExpiry | drive | release | faultClear
  | restart => cases hc
  | detectLineChange dt level =>
    rw [← Host.Outcome.next.inj e]
    split
    · exact lineChanged_driveSide (s.tick dt) level
    · rfl
  | debounceExpiry => exact onSupply_driveSide debounceExpired_driveSide e
  | powerOffTimeExpiry => exact onSupply_driveSide powerOffTimeExpired_driveSide e
  | linkSettleExpiry => exact onSupply_driveSide linkSettleExpired_driveSide e
  | identityReadEnd => exact onSupply_driveSide (identityReadEnded_driveSide · _) e
  | identityRetry => exact onSupply_driveSide identityRetried_driveSide e
  | poll => exact onSupply_driveSide pollMade_driveSide e
  | pollCompletion => exact onSupply_driveSide (pollEnded_driveSide · _) e
  | recoveryLineRead => exact onSupply_driveSide (linesRead_driveSide · _ _) e
  | clockPulseEnd => exact onSupply_driveSide (pulseEnded_driveSide · _) e
  | suspendTimerExpiry => exact onSupply_driveSide suspendExpired_driveSide e
  | byteReceived => exact onSupply_driveSide (act := byteTaken _ _) (fun _ => rfl) e
  | gapExpiry => exact onSupply_driveSide gapExpired_driveSide e
  | frameSent => exact onSupply_driveSide frameSent_driveSide e
  | unknownKind => exact onSupply_driveSide unknownTaken_driveSide e
  | storeWriteCompletion => exact onSupply_driveSide (storeCompleted_driveSide · _) e
  | mainSupplyLoss => exact Host.Outcome.next.inj e ▸ rfl
  | standbySupplyLoss => exact Host.Outcome.next.inj e ▸ rfl
  | standbySupplyReturn => exact Host.Outcome.next.inj e ▸ rfl
  | status => exact execRequest_driveSide statusOwner_driveSide e
  | readChanges => exact execRequest_driveSide readChangesOwner_driveSide e
  | clearChanges => exact execRequest_driveSide clearChangesOwner_driveSide e
  | changeConfig => exact execRequest_driveSide changeConfigOwner_driveSide e
  | sectionConfig => exact execRequest_driveSide sectionConfigOwner_driveSide e
  | profileWrite => exact execRequest_driveSide profileOwner_driveSide e
  | arm => exact execRequest_driveSide armOwner_driveSide e
  | disarm => exact execRequest_driveSide disarmOwner_driveSide e
  | captureConfig => exact execRequest_driveSide captureOwner_driveSide e
  | assortment => exact execRequest_driveSide assortmentOwner_driveSide e
  | readLifts => exact execRequest_driveSide readLiftsOwner_driveSide e
  | readTotals => exact execRequest_driveSide readTotalsOwner_driveSide e
  | undoLast => exact execRequest_driveSide undoLastOwner_driveSide e
  | correct => exact execRequest_driveSide correctOwner_driveSide e
  | reassign => exact execRequest_driveSide reassignOwner_driveSide e
  | manualLift => exact execRequest_driveSide manualLiftOwner_driveSide e
  | tripClose => exact execRequest_driveSide tripCloseOwner_driveSide e
  | payloadLimit => exact execRequest_driveSide payloadLimitOwner_driveSide e
  | zoneWrite => exact execRequest_driveSide zoneWriteOwner_driveSide e
  | zoneEnable => exact execRequest_driveSide zoneEnableOwner_driveSide e
  | zoneRead => exact execRequest_driveSide zoneReadOwner_driveSide e
  | limiterConfig => exact execRequest_driveSide limiterOwner_driveSide e
  | ratedWrite => exact execRequest_driveSide ratedOwner_driveSide e
  | linkStatus => exact execRequest_driveSide linkStatusOwner_driveSide e
  | linkReset => exact execRequest_driveSide linkResetOwner_driveSide e
  | calibrate => exact execRequest_driveSide calibrateOwner_driveSide e
  | tare => exact execRequest_driveSide tareOwner_driveSide e
  | channelCalibration => exact execRequest_driveSide channelOwner_driveSide e
  | geometryConfig => exact execRequest_driveSide geometryOwner_driveSide e
  | storeSettings => exact execRequest_driveSide storeOwner_driveSide e
  | restartRequest => exact execRequest_driveSide restartOwner_driveSide e

end Commands

end Sys2Proof.Machine
end

section
/-! ### The shaping of a demand does not enlarge it -/

namespace Sys2Proof.Machine

open Sys2Proof

/-! #### Signs, factors and steps -/

theorem natAbs_signOf_mul_le (x : Int) (n : Nat) : (signOf x * (n : Int)).natAbs ≤ n := by
  rw [signOf_eq, Int.natAbs_mul, Int.natAbs_natCast, Int.natAbs_sign]
  split <;> simp

theorem natAbs_scaleBy_le (t : Int) {factor : Nat} (h : factor ≤ 1000) : (scaleBy t factor).natAbs ≤ t.natAbs := by
  rw [scaleBy, truncDiv, Int.natAbs_tdiv, Int.natAbs_mul, Int.natAbs_natCast]
  refine Nat.div_le_of_le_mul ?_
  rw [mul_comm]
  exact Nat.mul_le_mul_right _ h

theorem natAbs_shrinkBy_le (step : Nat) (o : Int) (least : Nat) : (shrinkBy step o least).natAbs ≤ o.natAbs :=
  (natAbs_signOf_mul_le _ _).trans (Nat.sub_le _ _)

theorem natAbs_heldOutput_le (hold : Bool) (o : Int) : (heldOutput hold o).natAbs ≤ o.natAbs := by
  unfold heldOutput
  split
  · exact Nat.zero_le _
  · exact le_rfl

/-- A ramp stays between the output it leaves and the target it goes to (R143). -/
theorem natAbs_ramp_le (cfg : SectionSettings) (o t t0 : Int) :
    (ramp cfg o t t0).natAbs ≤ max o.natAbs t.natAbs := by
  unfold ramp
  split
  · split
    · exact Nat.zero_le _
    · have hstep := natAbs_signOf_mul_le t (min cfg.upStep t.natAbs)
      omega
  split
  · exact (natAbs_shrinkBy_le _ _ _).trans (le_max_left _ _)
  split
  · have hrise := natAbs_signOf_mul_le o (o.natAbs + min cfg.upStep (t.natAbs - o.natAbs))
    omega
  split
  · exact le_max_right _ _
  · exact (natAbs_shrinkBy_le _ _ _).trans (le_max_left _ _)

theorem natAbs_profileFall_le (cfg : SectionSettings) (d : DshSection) :
    (profileFall cfg d).natAbs ≤ d.output.natAbs := by
  unfold profileFall
  split
  · exact natAbs_shrinkBy_le _ _ _
  split
  · exact Nat.zero_le _
  · exact natAbs_shrinkBy_le _ _ _

/-! #### The factors within 1 000‰ -/

/-- The factors that scale a target lie within 0..1 000‰ (R129, R141). -/
structure FactorsBounded (e : EvalRecord) (factor : Nat) : Prop where
  slow : e.slow ≤ 1000
  slewA : e.slewA ≤ 1000
  slewB : e.slewB ≤ 1000
  limiter : factor ≤ 1000

section Factors

variable {e : EvalRecord} {factor : Nat}

theorem FactorsBounded.classFactor_le (h : FactorsBounded e factor) (cfg : SectionSettings) (sign : Int) :
    classFactor cfg factor sign ≤ 1000 := by
  unfold classFactor
  split
  · exact h.limiter
  · exact le_rfl

theorem FactorsBounded.slewFactor_le (h : FactorsBounded e factor) (sign : Int) : slewFactor e sign ≤ 1000 := by
  unfold slewFactor
  split
  · exact h.slewA
  · exact h.slewB

/-- The four steps that form a target do not enlarge it (R141). -/
theorem FactorsBounded.natAbs_shape_le (h : FactorsBounded e factor) (i : Fin 6) (cfg : SectionSettings)
    (sign t0 : Int) : (shape i cfg e factor sign t0).natAbs ≤ t0.natAbs := by
  have hzones := natAbs_scaleBy_le t0 h.slow
  have hclass := (natAbs_scaleBy_le (scaleBy t0 e.slow) (h.classFactor_le cfg sign)).trans hzones
  unfold shape
  dsimp only
  split
  · exact Nat.zero_le _
  split
  · exact (natAbs_scaleBy_le _ (h.slewFactor_le sign)).trans hclass
  · exact hclass

end Factors

/-! #### A section at a drive period -/

/-- The demand, the targets and the outputs of a section have a magnitude of at most 1 000‰ (R135, R140, R141). -/
structure DshSection.Bounded (d : DshSection) : Prop where
  held : d.held.natAbs ≤ 1000
  t0 : d.t0.natAbs ≤ 1000
  target : d.target.natAbs ≤ 1000
  output : d.output.natAbs ≤ 1000
  shown : d.record.output.natAbs ≤ 1000

/-- An entry of a vector, read by a number that names it. -/
theorem toList_getD_val {α : Type} {n : Nat} (v : Vector α n) (k : Fin n) (x : α) : v.toList.getD k x = v[k] := by
  simp [List.getD_eq_getElem?_getD]

/-- A bound of every entry of a table bounds what is read of it at any number. -/
theorem toList_getD_le {n b : Nat} {v : Vector Nat n} (h : ∀ k : Fin n, v[k] ≤ b) (i : Nat) :
    v.toList.getD i 0 ≤ b := by
  by_cases hi : i < n
  · exact (toList_getD_val v ⟨i, hi⟩ 0).trans_le (h ⟨i, hi⟩)
  · rw [List.getD_eq_default _ _ (by simpa using hi)]
    exact Nat.zero_le b

section Section

variable {e : EvalRecord} {factor : Nat} {d : DshSection} (i : Fin 6) (cfg : SectionSettings) (hold : Bool)

theorem regularStep_bounded (h : d.Bounded) (hf : FactorsBounded e factor) :
    (regularStep i cfg e factor hold d).Bounded := by
  have ht0 : (if d.latch then 0 else d.held).natAbs ≤ 1000 := by
    split
    · exact Nat.zero_le _
    · exact h.held
  have htarget := (hf.natAbs_shape_le i cfg (if d.latch then 0 else d.held) (if d.latch then 0 else d.held)).trans ht0
  have hramp := (natAbs_ramp_le cfg d.output _ (if d.latch then 0 else d.held)).trans (max_le h.output htarget)
  exact { h with t0 := ht0, target := htarget, output := (natAbs_heldOutput_le hold _).trans hramp }

theorem profileStep_bounded (h : d.Bounded) (hf : FactorsBounded e factor) {table : Vector Nat 16}
    (htable : ∀ k : Fin 16, table[k] ≤ 1000) : (profileStep i cfg table e factor hold d).Bounded := by
  unfold profileStep
  split
  · have ht0 := (natAbs_signOf_mul_le d.held _).trans
      (toList_getD_le htable (if d.running then d.index else cfg.startIndex))
    have htarget := (hf.natAbs_shape_le i cfg d.held _).trans ht0
    exact { h with t0 := ht0, target := htarget, output := htarget }
  · have houtput := ((natAbs_heldOutput_le hold _).trans (natAbs_profileFall_le cfg d)).trans h.output
    exact { h with t0 := Nat.zero_le _, target := Nat.zero_le _, output := houtput }

end Section

theorem DshSection.Bounded.stopped {d : DshSection} (h : d.Bounded) : { d with output := 0 }.Bounded :=
  { h with output := Nat.zero_le _ }

theorem natAbs_clampDemand_le (x : Int) : (clampDemand x).natAbs ≤ 1000 := by
  have hmem := clampInt_mem (-1000) 1000 x (by decide)
  unfold clampDemand
  omega

/-- A Drive holds its demands clamped (R135). -/
theorem driveSection_bounded (due : Nat) (enable : Bool) (demand : Int) {d : DshSection} (h : d.Bounded) :
    (driveSection due enable demand d).Bounded := by
  refine { h with held := ?_ }
  unfold driveSection
  dsimp only
  split
  · exact natAbs_clampDemand_le demand
  · exact Nat.zero_le _

end Sys2Proof.Machine
end

section
/-! ### Factors, demands, targets and outputs, kept within 1 000‰ by every step -/

namespace Sys2Proof.Machine

open Sys2Proof

section Parts

variable {s t : State}

/-- `MagnitudesSound` with a name for each part. -/
theorem State.magnitudesSound_iff (s : State) :
    s.MagnitudesSound ↔ FactorsBounded s.evm s.mlm.factor ∧ ∀ i : Fin 6, s.dsh[i].Bounded := by
  constructor
  · rintro ⟨hslow, hslewA, hslewB, hlimiter, hdsh⟩
    refine ⟨⟨hslow, hslewA, hslewB, hlimiter⟩, fun i => ?_⟩
    obtain ⟨hheld, ht0, htarget, houtput, hshown⟩ := hdsh i
    exact ⟨hheld, ht0, htarget, houtput, hshown⟩
  · rintro ⟨⟨hslow, hslewA, hslewB, hlimiter⟩, hdsh⟩
    refine ⟨hslow, hslewA, hslewB, hlimiter, fun i => ?_⟩
    obtain ⟨hheld, ht0, htarget, houtput, hshown⟩ := hdsh i
    exact ⟨hheld, ht0, htarget, houtput, hshown⟩

theorem State.MagnitudesSound.factors (h : s.MagnitudesSound) : FactorsBounded s.evm s.mlm.factor :=
  ((State.magnitudesSound_iff s).1 h).1

theorem State.MagnitudesSound.sections (h : s.MagnitudesSound) (i : Fin 6) : s.dsh[i].Bounded :=
  ((State.magnitudesSound_iff s).1 h).2 i

/-- A state stays sound while its drive side stands. -/
theorem State.MagnitudesSound.of_driveSide (h : s.MagnitudesSound) (e : t.driveSide = s.driveSide) :
    t.MagnitudesSound := by
  simp only [State.driveSide, Prod.mk.injEq] at e
  obtain ⟨hevm, hmlm, hdsh, -⟩ := e
  simpa only [State.MagnitudesSound, hevm, hmlm, hdsh] using h

theorem State.MagnitudesSound.setDsh (h : s.MagnitudesSound) {d : Vector DshSection 6}
    (hd : ∀ i : Fin 6, d[i].Bounded) : (s.setDsh d).MagnitudesSound :=
  (State.magnitudesSound_iff _).2 ⟨h.factors, hd⟩

/-- Every section replaced by a bounded one of the same number. -/
theorem State.MagnitudesSound.setDsh_ofFn (h : s.MagnitudesSound) {f : Fin 6 → DshSection} (hf : ∀ i, (f i).Bounded) :
    (s.setDsh (Vector.ofFn f)).MagnitudesSound :=
  h.setDsh fun i => by simpa using hf i

/-- One section replaced by a bounded one. -/
theorem State.MagnitudesSound.setSection (h : s.MagnitudesSound) (i : Fin 6) {d : DshSection} (hd : d.Bounded) :
    (s.setDsh (s.dsh.set i d)).MagnitudesSound :=
  h.setDsh (forall_getElem_set (p := fun _ => DshSection.Bounded) h.sections hd)

end Parts

/-! #### The scan and the restart -/

section Factors

variable {s : State}

theorem evaluateZones_bounded (r : ScanRecord) (zones : Vector Zone 8) (held : Bool) {factor : Nat}
    (h : factor ≤ 1000) : FactorsBounded (evaluateZones r zones held) factor := by
  have hmin (l : List Nat) : minFactor l ≤ 1000 := (minFactor_spec l).1
  cases hvalid : r.tipValid with
  | true =>
    obtain ⟨hslow, hslewA, hslewB, -⟩ := evaluateZones_valid (zones := zones) (held := held) hvalid
    exact ⟨hslow.trans_le (hmin _), hslewA.trans_le (hmin _), hslewB.trans_le (hmin _), h⟩
  | false =>
    obtain ⟨-, hslow, hslewA, hslewB, -⟩ := evaluateZones_invalid (zones := zones) (held := held) hvalid
    exact ⟨hslow.trans_le (hmin _), hslewA.trans_le (worstSlew_le _), hslewB.trans_le (worstSlew_le _), h⟩

theorem scanned_magnitudesSound (raw : Vector Nat 9) (h : s.MagnitudesSound) : (scanned raw s).MagnitudesSound := by
  obtain ⟨-, -, hfactor, -⟩ := scanned_mlm_sound raw s
  have hdsh : (scanned raw s).dsh = s.dsh := by rw [scanned_frame]
  rw [State.magnitudesSound_iff, hdsh, scanned_evm]
  exact ⟨evaluateZones_bounded _ _ _ hfactor, h.sections⟩

theorem restartTaken_magnitudesSound (h : s.MagnitudesSound) : (restartTaken s).MagnitudesSound := by
  have hset (asked : Option RestartKind) (s : State) : (restarted asked s).MagnitudesSound :=
    (restartBlocks_magnitudesSound _ _ s).of_driveSide (latchIf_driveSide _ _ _)
  unfold restartTaken
  split
  · split
    · split
      · exact hset _ _
      · exact h
    · exact h
  · exact hset _ _

end Factors

/-! #### The supply -/

section Supply

variable {s : State}

theorem lockUnlessLocked_magnitudesSound (cause : LockCause) (h : s.MagnitudesSound) :
    (lockUnlessLocked cause s).MagnitudesSound := by
  have hlocked (c : Cds) : ((s.setCds c).setDsh (lockSections s.dsh)).MagnitudesSound :=
    State.MagnitudesSound.setDsh_ofFn (s := s.setCds c) h fun i => { (h.sections i).stopped with }
  unfold lockUnlessLocked
  split
  · exact h
  · exact (hlocked _).of_driveSide (latch_driveSide _ _)

theorem wakeSupply_magnitudesSound (h : s.MagnitudesSound) : (wakeSupply s).MagnitudesSound :=
  State.MagnitudesSound.setDsh_ofFn (s := s.publishCds _) h fun i => { h.sections i with }

theorem driveSupply_magnitudesSound (halt : Bool) (h : s.MagnitudesSound) : (driveSupply halt s).MagnitudesSound := by
  unfold driveSupply
  split
  · exact lockUnlessLocked_magnitudesSound _ h
  split
  · exact wakeSupply_magnitudesSound h
  · exact h

theorem supplySettleExpired_magnitudesSound (h : s.MagnitudesSound) : (supplySettleExpired s).MagnitudesSound := by
  unfold supplySettleExpired
  split <;> exact h

theorem idleTimerExpired_magnitudesSound (h : s.MagnitudesSound) : (idleTimerExpired s).MagnitudesSound := by
  have hasleep (c : Cds) : (s.publishCds c).MagnitudesSound := h
  unfold idleTimerExpired
  split
  · exact (hasleep _).of_driveSide (latch_driveSide _ _)
  · exact h

end Supply

/-! #### The drive period -/

section DrivePeriod

variable {s : State}

theorem sectionStep_bounded (hset : s.settings.Sound) (h : s.MagnitudesSound) (i : Fin 6) :
    (sectionStep s i).Bounded := by
  unfold sectionStep
  dsimp only
  split
  · exact regularStep_bounded _ _ _ (h.sections i) h.factors
  · exact profileStep_bounded _ _ _ (h.sections i) h.factors
      (((Settings.sound_iff_fits _).1 hset).profiles (tableOf i))

theorem judgeAll_magnitudesSound (currents : Vector Nat 6) (h : s.MagnitudesSound) :
    (judgeAll currents s).MagnitudesSound := by
  have hstopped (c : Cds) (p : Fin 6 → Bool) :
      ((s.setCds c).setDsh (Vector.ofFn fun i =>
        if p i then { s.dsh[i] with output := 0 } else s.dsh[i])).MagnitudesSound := by
    refine State.MagnitudesSound.setDsh_ofFn (s := s.setCds c) h fun i => ?_
    split
    · exact (h.sections i).stopped
    · exact h.sections i
  have hlatched (c : Cds) (p : Fin 6 → Bool) (b : Bool) :=
    (hstopped c p).of_driveSide (latchIf_driveSide _ b .coilFault)
  unfold judgeAll
  dsimp only
  split
  · exact lockUnlessLocked_magnitudesSound _ (hlatched _ _ _)
  · exact hlatched _ _ _

theorem publishSections_magnitudesSound (h : s.MagnitudesSound) : (publishSections s).MagnitudesSound :=
  h.setDsh_ofFn fun i => { h.sections i with shown := (h.sections i).output }

/-- A drive period shapes bounded demands to bounded outputs, and a fault or a lock sets outputs to 0 (R139, R156). -/
theorem drivePeriodTaken_magnitudesSound (currents : Vector Nat 6) (hset : s.settings.Sound) (h : s.MagnitudesSound) :
    (drivePeriodTaken currents s).MagnitudesSound := by
  have hshaped : (shapeAll s).MagnitudesSound := h.setDsh_ofFn (sectionStep_bounded hset h)
  have hjudged := judgeAll_magnitudesSound currents hshaped
  have hcoils : (coilsAll s (judgeAll currents (shapeAll s))).MagnitudesSound := hjudged
  exact publishSections_magnitudesSound hcoils

theorem driverTripped_magnitudesSound (v : ValveSection) (h : s.MagnitudesSound) :
    (driverTripped v s).MagnitudesSound := by
  have hstopped (c : Cds) :
      ((s.publishCds c).setDsh (s.dsh.set v.index { s.dsh[v.index] with output := 0 })).MagnitudesSound :=
    State.MagnitudesSound.setSection (s := s.publishCds c) h v.index (h.sections v.index).stopped
  unfold driverTripped
  dsimp only
  split
  · exact lockUnlessLocked_magnitudesSound _ ((hstopped _).of_driveSide (latch_driveSide _ _))
  · exact h

end DrivePeriod

/-! #### The demands and the faults -/

section Demands

variable {s : State}

theorem demandExpired_magnitudesSound (v : ValveSection) (h : s.MagnitudesSound) :
    (demandExpired v s).MagnitudesSound := by
  have hdropped : { s.dsh[v.index] with held := 0, expiryDue := none, expired := true, latch := true }.Bounded :=
    { h.sections v.index with held := Nat.zero_le _ }
  have hset := h.setSection v.index hdropped
  unfold demandExpired
  dsimp only
  split
  · exact hset.of_driveSide (demandEvent_driveSide _)
  · exact h

theorem driveOwner_magnitudesSound (s : State) (r : DriveRequest) (h : s.MagnitudesSound) :
    (driveOwner r s).state.MagnitudesSound := by
  have hheld : (driveHeld r s).MagnitudesSound := h.setDsh_ofFn fun i => driveSection_bounded _ _ _ (h.sections i)
  unfold driveOwner
  split
  · exact h
  · exact driveSupply_magnitudesSound _ (hheld.of_driveSide (demandEvent_driveSide _))

theorem releaseOwner_magnitudesSound (s : State) (u : Unit) (h : s.MagnitudesSound) :
    (releaseOwner u s).state.MagnitudesSound := by
  unfold releaseOwner
  split
  · split <;> exact h
  · exact h

theorem faultClearOwner_magnitudesSound (s : State) (selector : Nat) (h : s.MagnitudesSound) :
    (faultClearOwner selector s).state.MagnitudesSound := by
  unfold faultClearOwner
  split
  · exact h
  · have hcleared (c : Cds) (b : Bool) : (if b then s.publishCds c else s.setCds c).MagnitudesSound := by
      cases b <;> exact h
    refine (hcleared _ _).setDsh_ofFn fun i => ?_
    split
    · exact { h.sections i with }
    · exact h.sections i

end Demands

/-! #### Every command -/

section Commands

variable {dt : Nat} {s t : State}

theorem onSupply_magnitudesSound {act : State → State} (hact : ∀ s, s.MagnitudesSound → (act s).MagnitudesSound)
    (h : s.MagnitudesSound) (e : onSupply dt s act = .next t) : t.MagnitudesSound :=
  onSupply_keeps (P := State.MagnitudesSound) (fun _ _ h => h) hact h e

theorem execRequest_magnitudesSound {α : Type} {kind : Byte} {reader : Reader α} {owner : α → State → Answer}
    (howner : ∀ s x, s.MagnitudesSound → (owner x s).state.MagnitudesSound) (h : s.MagnitudesSound)
    (e : execRequest dt kind reader owner s = .next t) : t.MagnitudesSound :=
  execRequest_keeps (P := State.MagnitudesSound) (fun _ _ h => h) (fun _ _ h => h) howner h e

/-- The settings matter to a drive period alone: it reads the profile tables. -/
theorem exec_magnitudesSound {c : Instr} (hset : s.SettingsSound) (h : s.MagnitudesSound) (e : exec c s = .next t) :
    t.MagnitudesSound := by
  cases hc : movesDriveSide c with
  | false => exact h.of_driveSide (exec_driveSide hc e)
  | true =>
    cases c with
    | scan => exact onSupply_magnitudesSound (fun _ => scanned_magnitudesSound _) h e
    | demandExpiry => exact onSupply_magnitudesSound (fun _ => demandExpired_magnitudesSound _) h e
    | drivePeriod dt currents =>
      exact (onSupply_keeps (P := fun s => s.SettingsSound ∧ s.MagnitudesSound) (fun _ _ h => h)
        (fun s ⟨hset, h⟩ => ⟨hset.of_stored (drivePeriodTaken_stored s currents),
          drivePeriodTaken_magnitudesSound currents hset.1 h⟩) ⟨hset, h⟩ e).2
    | driverTrip => exact onSupply_magnitudesSound (fun _ => driverTripped_magnitudesSound _) h e
    | supplySettleExpiry => exact onSupply_magnitudesSound (fun _ => supplySettleExpired_magnitudesSound) h e
    | idleTimerExpiry => exact onSupply_magnitudesSound (fun _ => idleTimerExpired_magnitudesSound) h e
    | drive => exact execRequest_magnitudesSound driveOwner_magnitudesSound h e
    | release => exact execRequest_magnitudesSound releaseOwner_magnitudesSound h e
    | faultClear => exact execRequest_magnitudesSound faultClearOwner_magnitudesSound h e
    | restart dt => exact Host.Outcome.next.inj e ▸ restartTaken_magnitudesSound (s := s.tick dt) h
    | _ => cases hc

end Commands

/-- Settles O8: the factors of a scan and of a restart are within 1 000‰, a Drive clamps its demands, no step of the
shaping enlarges a target, a ramp stays between output and target, and every other move of an output sets it to 0. -/
theorem stepKeepsMagnitudes : Obligations.StepKeepsMagnitudes := fun _ _ hset h hstep =>
  (step_keeps (P := fun s => s.SettingsSound ∧ s.MagnitudesSound) (fun _ _ h => h)
    (fun _ _ _ ⟨hset, h⟩ e => ⟨exec_settingsSound hset e, exec_magnitudesSound hset h e⟩) ⟨hset, h⟩ hstep).2

end Sys2Proof.Machine
end

section
/-! ### The limiter's evaluation at a scan -/

namespace Sys2Proof.Machine

open Sys2Proof

/-! #### The source -/

section Source

variable {r : ScanRecord} {latest : Option Sample}

theorem linkForce_any_iff : latest.any Sample.linkForce = true ↔ ∃ x, latest = some x ∧ x.linkForce = true := by
  cases latest <;> simp

theorem sourceOf_eq_link_iff : sourceOf r latest = .link ↔ ∃ x, latest = some x ∧ x.linkForce = true := by
  rw [← linkForce_any_iff, sourceOf]
  split
  · simp [*]
  · split <;> simp [*]

theorem sourceOf_eq_none_iff :
    sourceOf r latest = .none ↔
      (¬∃ x, latest = some x ∧ x.linkForce = true) ∧ (r.stateOf .ppist = .lost ∨ r.stateOf .prod = .lost) := by
  rw [← linkForce_any_iff, sourceOf]
  split
  · simp [*]
  · rename_i hlink
    rw [and_iff_right hlink]
    split
    · rename_i hboth
      simpa using hboth
    · rename_i hlost
      simpa [or_iff_not_imp_left] using hlost

end Source

/-! #### The figures -/

theorem clampMoment_eq (m : Int) : (clampMoment m : Int) = max 0 (min 999999 m) := by
  have hmem := clampInt_mem 0 999999 m (by decide)
  rw [clampMoment, Int.toNat_of_nonneg hmem.1, clampInt_eq _ _ _ (by decide)]

theorem utilisation_eq (moment : Nat) (rated : Int) :
    (utilisation moment rated : Int) = max 0 (min 1999 ((moment : Int) * 1000 / rated)) := by
  have hmem := clampInt_mem 0 1999 (floorDiv (moment * 1000) rated) (by decide)
  rw [utilisation, Int.toNat_of_nonneg hmem.1, clampInt_eq _ _ _ (by decide), floorDiv]

theorem clampTilt_eq (x : Int) : clampTilt x = max (-200) (min 200 x) := clampInt_eq _ _ _ (by decide)

/-- The index of a clamped tilt-along is that of the interval of 50 it lies in, the last one at +200 (R121). -/
theorem ratedIndex_eq {x : Int} (h : -200 ≤ x) : (ratedIndex x : Int) = min 7 ((x + 200) / 50) := by
  unfold ratedIndex
  omega

/-- The rated moment is the line between the entries on both sides, truncated (R121). -/
theorem ratedMoment_eq (table : Vector Nat 9) (x : Int) {lo hi : Fin 9} (hlo : lo.val = ratedIndex x)
    (hhi : hi.val = ratedIndex x + 1) :
    ratedMoment table x =
      table[lo] + Int.tdiv (((table[hi] : Int) - table[lo]) * (x - (-200 + 50 * (ratedIndex x : Int)))) 50 := by
  rw [ratedMoment, ← hhi, ← hlo, toList_getD_val, toList_getD_val]
  rfl

theorem warnLevelFor_eq (c : LimiterSettings) (src : MomentSource) :
    warnLevelFor c src = (c.warnOn : Int) - (if src = .pressure then (c.derate : Int) else 0) := by
  cases src <;> simp [warnLevelFor]

theorem limitLevelFor_eq (c : LimiterSettings) (src : MomentSource) :
    limitLevelFor c src = (c.limitOn : Int) - (if src = .pressure then (c.derate : Int) else 0) := by
  cases src <;> simp [limitLevelFor]

/-! #### The state and the factor -/

section Moves

variable {u warn limit hyst : Int}

/-- A state that is neither WARN nor LIMIT by a moment is taken from u directly (R125, R126). -/
theorem moveLimiter_of_free {st : LimiterState} (hwarn : st ≠ .warn) (hlimit : st ≠ .limit .moment) :
    moveLimiter st u warn limit hyst = stateFromU u warn limit := by
  cases st with
  | normal => rfl
  | warn => exact absurd rfl hwarn
  | limit cause =>
    cases cause with
    | moment => exact absurd rfl hlimit
    | noGeometry | noSource | starting => rfl

theorem limiterFactor_warn :
    (limiterFactor .warn u warn limit : Int) = max 0 (min 1000 ((limit - u) * 1000 / (limit - warn))) := by
  have hmem := clampInt_mem 0 1000 (floorDiv ((limit - u) * 1000) (limit - warn)) (by decide)
  rw [limiterFactor, Int.toNat_of_nonneg hmem.1, clampInt_eq _ _ _ (by decide), floorDiv]

end Moves

/-! #### The record -/

section Record

variable {set : Settings} {r : ScanRecord} {latest : Option Sample} {ring : List Int} {st : LimiterState}

theorem evaluateLimiter_noGeometry (h : r.tipValid = false) :
    evaluateLimiter set r latest ring st =
      { source := sourceOf r latest, figures := none, state := .limit .noGeometry, factor := 0 } := by
  simp [evaluateLimiter, h]

theorem evaluateLimiter_noSource (h : r.tipValid = true) (hsource : sourceOf r latest = .none) :
    evaluateLimiter set r latest ring st =
      { source := sourceOf r latest, figures := none, state := .limit .noSource, factor := 0 } := by
  simp [evaluateLimiter, h, hsource]

/-- With a valid tip and a source the record holds the figures, the state moved by them and its factor. -/
theorem evaluateLimiter_figures (h : r.tipValid = true) (hsource : sourceOf r latest ≠ .none) :
    ∃ (f : MomentFigures) (moved : LimiterState),
      f = momentFigures set r ring (sourceOf r latest) ∧
        moved = moveLimiter st f.u f.warnLevel f.limitLevel set.limiter.hyst ∧
        evaluateLimiter set r latest ring st =
          { source := sourceOf r latest, figures := some f, state := moved
            factor := limiterFactor moved f.u f.warnLevel f.limitLevel } :=
  ⟨_, _, rfl, rfl, by simp [evaluateLimiter, h, hsource]⟩

end Record

/-! #### The scan -/

/-- The limiter works on the record just published and on the latest sample and ring. -/
theorem scanned_mlm (raw : Vector Nat 9) (s : State) :
    (scanned raw s).mlm =
      evaluateLimiter s.settings (scanned raw s).ssu.record s.wlc.latest s.wlc.ring s.mlm.state := by
  simp [scanned, scanLimiter_mlm, scanSensors, scanZones]

theorem scanned_valueOf (raw : Vector Nat 9) (s : State) (c : Channel) :
    (scanned raw s).ssu.record.valueOf c = (scanned raw s).ssu.channels[c.index].value := by
  simp [ScanRecord.valueOf, scanRecordOf]

/-- Settles O55: the record is `evaluateLimiter` of the record just published, without a moment and with one. -/
theorem scanMovesLimiter : Obligations.ScanMovesLimiter := by
  intro s dt raw hmain
  have hmlm := scanned_mlm raw (s.tick dt)
  have hstateOf := scanned_stateOf raw (s.tick dt)
  have hvalueOf := scanned_valueOf raw (s.tick dt)
  have hclp := (scanned_clp raw (s.tick dt)).trans (State.scanLatches_tick_clp s (scanned raw (s.tick dt)) dt)
  have hexec : exec (.scan dt raw) s = .next (scanned raw (s.tick dt)) := onSupply_main dt s _ hmain
  set t := scanned raw (s.tick dt)
  refine ⟨t, sourceOf t.ssu.record s.wlc.latest, s.settings.limiter, hexec, rfl, sourceOf_eq_link_iff, ?_,
    fun hinvalid => hmlm.trans (evaluateLimiter_noGeometry hinvalid),
    fun hvalid hnone => hmlm.trans (evaluateLimiter_noSource hvalid hnone), fun hvalid hsome => ?_, hclp⟩
  · rw [sourceOf_eq_none_iff, hstateOf, hstateOf]
    rfl
  obtain ⟨f, moved, hf, hmoved, hrecord⟩ :=
    evaluateLimiter_figures (set := s.settings) (ring := s.wlc.ring) (st := s.mlm.state) hvalid hsome
  replace hmlm := hmlm.trans hrecord
  rw [hmlm]
  have htilt : f.tilt = clampTilt t.ssu.record.tilt := by rw [hf]; rfl
  have hrated : f.rated = ratedMoment s.settings.rated f.tilt := by rw [hf]; rfl
  have hmem : -200 ≤ f.tilt := htilt ▸ (clampInt_mem (-200) 200 _ (by decide)).1
  refine ⟨f, tipForce s.wlc.ring,
    cylinderForce s.settings.limiter (t.ssu.record.valueOf .ppist) (t.ssu.record.valueOf .prod), f.rated,
    ratedIndex f.tilt, rfl, rfl, fun hlink => ?_, fun hpressure => ?_, htilt.trans (clampTilt_eq _),
    ratedIndex_eq hmem, fun lo hi hlo hhi => hrated.trans (ratedMoment_eq _ _ hlo hhi), rfl, ?_, ?_, ?_,
    fun hwarn => ?_, fun hlimit => ?_, fun hwarn hlimit => hmoved.trans (moveLimiter_of_free hwarn hlimit), ?_, ?_, ?_⟩
  · rw [hlink] at hf
    rw [hf]
    exact ⟨rfl, rfl, clampMoment_eq _⟩
  · rw [hpressure] at hf
    rw [hf]
    refine ⟨rfl, ?_, clampMoment_eq _⟩
    rw [hvalueOf, hvalueOf]
    rfl
  · rw [hf]
    exact utilisation_eq _ _
  · rw [hf]
    exact warnLevelFor_eq _ _
  · rw [hf]
    exact limitLevelFor_eq _ _
  · rw [hmoved, hwarn]
    rfl
  · rw [hmoved, hlimit]
    rfl
  · rintro rfl
    rfl
  · rintro rfl
    rfl
  · rintro rfl
    exact limiterFactor_warn

end Sys2Proof.Machine
end

section
/-! ### What a lock of the supply and a drive period do to each section -/

namespace Sys2Proof.Machine

open Sys2Proof

/-! #### The lock -/

/-- The coil driver after the supply's entry to LOCKED, its record published (R165, R172). -/
def Cds.locked (c : Cds) (cause : LockCause) (cfgs : Vector SectionSettings 6) : Cds :=
  { c with
    sections := Vector.ofFn fun i => lockSection cfgs[i] c.sections[i]
    supply := .locked
    closed := false
    lockCause := some cause
    settleDue := none
    idleDue := none
    settleLeft := none
    idleLeft := none }

theorem latchIf_setCds_setDsh (b : Bool) (src : ChangeSource) (s : State) (c : Cds) (d : Vector DshSection 6) :
    latchIf b src ((s.setCds c).setDsh d) = ((latchIf b src s).setCds c).setDsh d := by
  cases b
  · rfl
  · exact latch_setCds_setDsh s src c d

/-- A second change of the coil driver and the sections takes the place of the first. -/
theorem State.setCds_setDsh_absorb (s : State) (c c' : Cds) (d d' : Vector DshSection 6) :
    (((s.setCds c).setDsh d).setCds c').setDsh d' = (s.setCds c').setDsh d' := rfl

/-- A lock moves the coil driver and the sections, and latches SupplyLocked (R138, R165). -/
theorem lockSupply_eq (cause : LockCause) (s : State) :
    lockSupply cause s =
      ((latch .supplyLocked s).setCds (s.cds.locked cause s.settings.sections)).setDsh (lockSections s.dsh) :=
  latch_setCds_setDsh s .supplyLocked (s.cds.locked cause s.settings.sections) (lockSections s.dsh)

/-! #### Step 1 of a drive period -/

section Judge

variable (currents : Vector Nat 6) (s : State)

/-- The fault a drive period finds in a section (R160, R161). -/
def State.foundFault (i : Fin 6) : Option FaultCause := judge s.cds.sections[i] currents[i]

/-- Whether a drive period finds a fault (R163). -/
def State.anyFound : Bool := (List.finRange 6).any fun i => (s.foundFault currents i).isSome

/-- Whether a drive period finds a short under a supply that is not LOCKED, and so locks it (R161). -/
def State.shortLocks : Bool :=
  ((List.finRange 6).any fun i => s.foundFault currents i == some .short) && s.cds.supply != .locked

/-- The latches of a drive period: CoilFault for a fault, then SupplyLocked for a lock. -/
def State.faultLatched : State :=
  latchIf (s.shortLocks currents) .supplyLocked (latchIf (s.anyFound currents) .coilFault s)

/-- A section of the shaper after step 1: stopped by its own fault, stopped and latched by a lock (R138, R140). -/
def State.judgedShape (i : Fin 6) : DshSection :=
  { s.dsh[i] with
    latch := s.dsh[i].latch || s.shortLocks currents
    output := if s.shortLocks currents || (s.foundFault currents i).isSome then 0 else s.dsh[i].output }

/-- A section of the coil driver after step 1: judged, then stopped by a lock. -/
def State.judgedCoil (i : Fin 6) : CdsSection :=
  let c := judgeSection s.settings.sections[i] s.cds.sections[i] currents[i]
  if s.shortLocks currents then lockSection s.settings.sections[i] c else c

/-- The coil driver after step 1, its sections aside. -/
def State.judgedSupply : Cds :=
  if s.shortLocks currents then s.cds.locked .coilShort s.settings.sections else s.cds

/-- The faults found applied to the sections, before a lock (R138, R160, R161). -/
def State.faultsApplied : State :=
  ((latchIf (s.anyFound currents) .coilFault s).setCds
    { s.cds with
      sections := Vector.ofFn fun i => judgeSection s.settings.sections[i] s.cds.sections[i] currents[i] }).setDsh
    (Vector.ofFn fun i => if (s.foundFault currents i).isSome then { s.dsh[i] with output := 0 } else s.dsh[i])

theorem judgeAll_cases :
    judgeAll currents s =
      if s.shortLocks currents then lockSupply .coilShort (s.faultsApplied currents) else s.faultsApplied currents := by
  have happlied : judgeAll currents s =
      if (List.finRange 6).any fun i => s.foundFault currents i == some .short then
        lockUnlessLocked .coilShort (s.faultsApplied currents)
      else s.faultsApplied currents := by
    rw [State.faultsApplied, ← latchIf_setCds_setDsh]
    rfl
  rw [happlied, State.shortLocks, lockUnlessLocked]
  have hsupply : (s.faultsApplied currents).cds.supply = s.cds.supply := rfl
  by_cases hshort : ((List.finRange 6).any fun i => s.foundFault currents i == some .short) = true <;>
    by_cases hlocked : s.cds.supply = .locked <;> simp [hshort, hlocked, hsupply]

/-- Step 1 of a drive period, section by section. -/
theorem judgeAll_eq :
    judgeAll currents s =
      ((s.faultLatched currents).setCds
        { s.judgedSupply currents with sections := Vector.ofFn (s.judgedCoil currents) }).setDsh
          (Vector.ofFn (s.judgedShape currents)) := by
  rw [judgeAll_cases]
  cases hlocks : s.shortLocks currents with
  | false =>
    have hdsh : (Vector.ofFn (s.judgedShape currents)) =
        Vector.ofFn fun i => if (s.foundFault currents i).isSome then { s.dsh[i] with output := 0 } else s.dsh[i] := by
      congr 1
      funext i
      cases h : (s.foundFault currents i).isSome <;> simp [State.judgedShape, hlocks, h]
    have hcoil : s.judgedCoil currents =
        fun i => judgeSection s.settings.sections[i] s.cds.sections[i] currents[i] := by
      funext i
      simp [State.judgedCoil, hlocks]
    simp [hdsh, hcoil, State.faultLatched, State.judgedSupply, State.faultsApplied, hlocks]
  | true =>
    have hdsh : (Vector.ofFn (s.judgedShape currents)) = lockSections (s.faultsApplied currents).dsh := by
      unfold lockSections
      congr 1
      funext i
      cases h : (s.foundFault currents i).isSome <;> simp [State.judgedShape, State.faultsApplied, hlocks, h]
    have hcoil : s.judgedCoil currents = fun i => lockSection s.settings.sections[i]
        (judgeSection s.settings.sections[i] s.cds.sections[i] currents[i]) := by
      funext i
      simp [State.judgedCoil, hlocks]
    have hlatch : latch .supplyLocked (s.faultsApplied currents) =
        ((s.faultLatched currents).setCds (s.faultsApplied currents).cds).setDsh (s.faultsApplied currents).dsh := by
      rw [State.faultLatched, hlocks]
      exact latch_setCds_setDsh ..
    have hlocked : (s.faultsApplied currents).cds.locked .coilShort s.settings.sections =
        { s.judgedSupply currents with sections := Vector.ofFn (s.judgedCoil currents) } := by
      rw [hcoil]
      simp [State.judgedSupply, hlocks, Cds.locked, State.faultsApplied]
    have hset : (s.faultsApplied currents).settings = s.settings := by simp [State.faultsApplied]
    rw [if_pos rfl, lockSupply_eq, hset, hlocked, hlatch, hdsh, State.setCds_setDsh_absorb]

end Judge

/-! #### A drive period as a whole -/

section Period

variable (currents : Vector Nat 6) (s : State)

/-- A section of the shaper as the drive period leaves it, before its record is published. -/
def State.periodShape (i : Fin 6) : DshSection := (shapeAll s).judgedShape currents i

/-- A section of the coil driver as the drive period leaves it (R156 to R159). -/
def State.periodCoil (i : Fin 6) : CdsSection :=
  coilSection s.settings.sections[i] (s.judgedSupply currents).supply s.cds.sections[i].state.drives
    (s.periodShape currents i) (s.judgedCoil currents i)

/-- The idle timer after the drive period (R170). -/
def State.periodIdle : Option Nat := idleAfterPeriod s.dsh (judgeAll currents (shapeAll s))

@[simp] theorem State.faultLatched_settings : (s.faultLatched currents).settings = s.settings := by
  simp [State.faultLatched]

@[simp] theorem State.faultLatched_now : (s.faultLatched currents).now = s.now := by simp [State.faultLatched]

/-- Steps 2 to 4 of a drive period on a state whose coil driver and sections are written out. -/
theorem coilsAll_setCds_setDsh (found u : State) (c : Cds) (d : Vector DshSection 6) :
    coilsAll found ((u.setCds c).setDsh d) =
      (u.setCds
        (Cds.publish
          { c with
            sections := Vector.ofFn fun i =>
              coilSection u.settings.sections[i] c.supply found.cds.sections[i].state.drives d[i] c.sections[i]
            idleDue := idleAfterPeriod found.dsh ((u.setCds c).setDsh d) } u.now)).setDsh d := rfl

theorem publishSections_setDsh (u : State) (d : Vector DshSection 6) :
    publishSections (u.setDsh d) =
      u.setDsh (Vector.ofFn fun i => { d[i] with record := sectionRecordOf u.now u.settings.sections[i] d[i] }) := rfl

/-- A drive period, section by section. -/
theorem drivePeriodTaken_eq :
    drivePeriodTaken currents s =
      (((shapeAll s).faultLatched currents).setCds
        (Cds.publish
          { s.judgedSupply currents with
            sections := Vector.ofFn (s.periodCoil currents)
            idleDue := s.periodIdle currents } s.now)).setDsh
          (Vector.ofFn fun i =>
            { s.periodShape currents i with
              record := sectionRecordOf s.now s.settings.sections[i] (s.periodShape currents i) }) := by
  have hset : ((shapeAll s).faultLatched currents).settings = s.settings := State.faultLatched_settings ..
  have hnow : ((shapeAll s).faultLatched currents).now = s.now := State.faultLatched_now ..
  rw [State.periodIdle, drivePeriodTaken, judgeAll_eq, coilsAll_setCds_setDsh, publishSections_setDsh]
  simp only [State.setCds_settings, State.setCds_now, hset, hnow, Fin.getElem_fin, Vector.getElem_ofFn]
  rfl

/-! #### What the period leaves, a field at a time -/

theorem drivePeriodTaken_dsh (i : Fin 6) :
    (drivePeriodTaken currents s).dsh[i] =
      { s.periodShape currents i with
        record := sectionRecordOf s.now s.settings.sections[i] (s.periodShape currents i) } := by
  simp [drivePeriodTaken_eq]

theorem drivePeriodTaken_section (i : Fin 6) :
    (drivePeriodTaken currents s).cds.sections[i] = s.periodCoil currents i := by
  simp [drivePeriodTaken_eq]

theorem drivePeriodTaken_supply :
    (drivePeriodTaken currents s).cds.supply = if s.shortLocks currents then .locked else s.cds.supply := by
  rw [drivePeriodTaken_eq]
  exact apply_ite Cds.supply ..

/-- A drive period takes no supply to ACTIVE (R165). -/
theorem supply_active_of_drivePeriodTaken (h : (drivePeriodTaken currents s).cds.supply = .active) :
    s.shortLocks currents = false ∧ s.cds.supply = .active := by
  rw [drivePeriodTaken_supply] at h
  cases hlocks : s.shortLocks currents <;> simp_all

theorem drivePeriodTaken_idleDue : (drivePeriodTaken currents s).cds.idleDue = s.periodIdle currents := by
  rw [drivePeriodTaken_eq]
  rfl

/-- The latches of a drive period look at the port and the enables alone. -/
theorem shapeAll_faultLatched :
    (shapeAll s).faultLatched currents = ((s.faultLatched currents).setCds s.cds).setDsh (shapeAll s).dsh := by
  have hshape : shapeAll s = (s.setCds s.cds).setDsh (shapeAll s).dsh := rfl
  rw [State.faultLatched, hshape, latchIf_setCds_setDsh, latchIf_setCds_setDsh]
  rfl

/-- A drive period moves the shaper and the coil driver, and latches (R139, R156). -/
theorem drivePeriodTaken_frame :
    drivePeriodTaken currents s =
      ((s.faultLatched currents).setCds (drivePeriodTaken currents s).cds).setDsh (drivePeriodTaken currents s).dsh := by
  rw [drivePeriodTaken_eq, shapeAll_faultLatched, State.setCds_setDsh_absorb]
  rfl

/-! #### The states the period gives -/

theorem sectionStateOf_spec (st : SectionState) (supply : SupplyState) (dead : Nat) (o : Int) (latched : Bool) :
    (sectionStateOf st supply dead o latched = .fault ↔ st = .fault) ∧
      (sectionStateOf st supply dead o latched = .driveA → dead = 0 ∧ 0 < o) ∧
      (sectionStateOf st supply dead o latched = .driveB → dead = 0 ∧ o < 0) := by
  have hrest : restState latched = .blocked ∨ restState latched = .idle := by cases latched <;> simp [restState]
  unfold sectionStateOf
  split_ifs with hfault hsupply hdead hpos hneg
  · simp [hfault]
  · rcases hrest with h | h <;> simp [h, hfault]
  · simp [hfault]
  · exact ⟨by simp [hfault], fun _ => ⟨by omega, hpos⟩, nofun⟩
  · exact ⟨by simp [hfault], nofun, fun _ => ⟨by omega, hneg⟩⟩
  · rcases hrest with h | h <;> simp [h, hfault]

theorem SectionState.drives_iff (st : SectionState) : st.drives = true ↔ st = .driveA ∨ st = .driveB := by
  cases st <;> simp [SectionState.drives]

section JudgeSection

variable (cfg : SectionSettings) (c : CdsSection) (current : Nat)

theorem judgeSection_state :
    (judgeSection cfg c current).state = if (judge c current).isSome then .fault else c.state := by
  unfold judgeSection
  cases judge c current <;> rfl

theorem judgeSection_dead :
    (judgeSection cfg c current).dead = if (judge c current).isSome then cfg.deadTime else c.dead := by
  unfold judgeSection
  cases judge c current <;> rfl

theorem judgeSection_fault :
    (judgeSection cfg c current).fault.isSome = ((judge c current).isSome || c.fault.isSome) := by
  unfold judgeSection
  cases judge c current <;> rfl

/-- Only a driven coil is found faulty (R160, R161). -/
theorem driven_of_judge (h : (judge c current).isSome) : c.driven = true := by
  unfold judge shortTest openTest at h
  cases hdriven : c.driven
  · simp [hdriven] at h
  · rfl

theorem lockSection_state_eq_fault_iff : (lockSection cfg c).state = .fault ↔ c.state = .fault := by
  simp [lockSection]

end JudgeSection

/-- Step 1 leaves a section in FAULT exactly when it found it there or finds its fault (R160, R161). -/
theorem judgedCoil_state_eq_fault_iff (i : Fin 6) :
    (s.judgedCoil currents i).state = .fault ↔
      s.cds.sections[i].state = .fault ∨ (s.foundFault currents i).isSome := by
  have hjudged : (judgeSection s.settings.sections[i] s.cds.sections[i] currents[i]).state = .fault ↔
      s.cds.sections[i].state = .fault ∨ (s.foundFault currents i).isSome := by
    rw [judgeSection_state, State.foundFault]
    cases (judge s.cds.sections[i] currents[i]).isSome <;> simp
  rw [← hjudged, State.judgedCoil]
  cases s.shortLocks currents
  · rfl
  · exact lockSection_state_eq_fault_iff ..

/-- A drive period leaves a section in FAULT exactly when it found it there or finds its fault. -/
theorem drivePeriodTaken_state_eq_fault_iff (i : Fin 6) :
    (drivePeriodTaken currents s).cds.sections[i].state = .fault ↔
      s.cds.sections[i].state = .fault ∨ (s.foundFault currents i).isSome := by
  rw [drivePeriodTaken_section, ← judgedCoil_state_eq_fault_iff]
  exact (sectionStateOf_spec ..).1

end Period

/-! #### Fault clear -/

section FaultClear

variable (selector : Nat) (s : State)

/-- Whether a Fault clear takes a section out of FAULT (R164). -/
def State.clears (i : Fin 6) : Bool := selects selector i && s.cds.sections[i].state == .fault

/-- The sections of the coil driver after a Fault clear (R164). -/
def State.clearedCoils : Vector CdsSection 6 :=
  Vector.ofFn fun i =>
    if s.clears selector i then { s.cds.sections[i] with state := .blocked, fault := none } else s.cds.sections[i]

/-- The sections of the shaper after a Fault clear (R138). -/
def State.clearedShapes : Vector DshSection 6 :=
  Vector.ofFn fun i => if s.clears selector i then { s.dsh[i] with latch := true } else s.dsh[i]

/-- With no section to take out of FAULT, every section stands. -/
theorem cleared_of_none (h : ¬∃ i, s.clears selector i = true) :
    s.clearedCoils selector = s.cds.sections ∧ s.clearedShapes selector = s.dsh :=
  ⟨Vector.ext fun i hi => by simp [State.clearedCoils, not_exists.1 h ⟨i, hi⟩],
    Vector.ext fun i hi => by simp [State.clearedShapes, not_exists.1 h ⟨i, hi⟩]⟩

/-- A Fault clear that takes no section out of FAULT changes nothing, and one that does publishes the coil record (R164,
R172). -/
theorem faultsCleared_eq :
    faultsCleared selector s =
      if ∃ i, s.clears selector i = true then
        (s.publishCds { s.cds with sections := s.clearedCoils selector }).setDsh (s.clearedShapes selector)
      else s := by
  have hany : ((List.finRange 6).any (s.clears selector)) = decide (∃ i, s.clears selector i = true) := by
    rw [Bool.eq_iff_iff]
    simp
  have hbranch : faultsCleared selector s =
      (if (List.finRange 6).any (s.clears selector) then
        s.publishCds { s.cds with sections := s.clearedCoils selector }
      else s.setCds { s.cds with sections := s.clearedCoils selector }).setDsh (s.clearedShapes selector) := rfl
  rw [hbranch, hany]
  by_cases h : ∃ i, s.clears selector i = true
  · simp [h]
  · obtain ⟨hcoils, hshapes⟩ := cleared_of_none selector s h
    rw [hcoils, hshapes, if_neg h, if_neg (by simpa using h)]
    rfl

end FaultClear

end Sys2Proof.Machine
end

section
/-! ### The valve supply and the coils, kept sound by every step -/

namespace Sys2Proof.Machine

open Sys2Proof

/-! #### The soundness of the supply and of one coil section -/

/-- A section of the coil driver fits the supply, the idle timer and the output the shaper gives it: the part of
`Cds.Sound` and `State.CoilsSound` that speaks of it. -/
structure CdsSection.Fits (c : CdsSection) (supply : SupplyState) (idleDue : Option Nat) (o : Int) : Prop where
  output : c.output = o
  active : c.active = c.state.coil
  driveA : c.state = .driveA → 0 < o
  driveB : c.state = .driveB → o < 0
  dead : c.state.drives → c.dead = 0
  setpoint : c.setpoint ≠ 0 → c.state.drives
  unsupplied : supply ≠ .active → o = 0
  resting : idleDue.isSome → o = 0
  fault : c.state = .fault ↔ c.fault.isSome

/-- Switch, lock cause and timers follow the supply state. -/
structure Cds.SupplyFits (c : Cds) : Prop where
  closed : c.closed = (c.supply == .waking || c.supply == .active)
  lockCause : c.lockCause.isSome ↔ c.supply = .locked
  settleDue : c.settleDue.isSome ↔ c.supply = .waking
  idleDue : c.idleDue.isSome → c.supply = .active

/-- The times left that the coil record shows stand while their timers run (R172). -/
structure Cds.TimesFit (c : Cds) : Prop where
  settleLeft : c.settleLeft.isSome ↔ c.settleDue.isSome
  idleLeft : c.idleLeft.isSome ↔ c.idleDue.isSome

/-- A state whose supply and coils are sound, with a name for each part. -/
structure State.CoilsFit (s : State) : Prop where
  supply : s.cds.SupplyFits
  times : s.cds.TimesFit
  sections : ∀ i : Fin 6, s.cds.sections[i].Fits s.cds.supply s.cds.idleDue s.dsh[i].output

section Section

variable {c : CdsSection} {supply : SupplyState} {idleDue : Option Nat} {o : Int}

/-- A section whose output is 0 drives no coil. -/
theorem CdsSection.Fits.not_drives (h : c.Fits supply idleDue o) (ho : o = 0) : c.state.drives = false := by
  rw [Bool.eq_false_iff, Ne, SectionState.drives_iff]
  rintro (hA | hB)
  · have hpos := h.driveA hA
    omega
  · have hneg := h.driveB hB
    omega

theorem CdsSection.Fits.setpoint_eq_zero (h : c.Fits supply idleDue o) (ho : o = 0) : c.setpoint = 0 := by
  by_contra hne
  exact absurd (h.setpoint hne) (by simp [h.not_drives ho])

theorem SectionState.coil_of_not_drives {st : SectionState} (h : st.drives = false) : st.coil = .none := by
  cases st <;> simp_all [SectionState.drives, SectionState.coil]

/-- A section at rest fits whatever the supply and the idle timer do. -/
theorem CdsSection.Fits.of_rest (houtput : c.output = 0) (hactive : c.active = .none) (hstate : c.state.drives = false)
    (hsetpoint : c.setpoint = 0) (hfault : c.state = .fault ↔ c.fault.isSome) : c.Fits supply idleDue 0 := by
  have hnot : c.state ≠ .driveA ∧ c.state ≠ .driveB := by
    rw [← not_or, ← SectionState.drives_iff, hstate]
    nofun
  exact
    { output := houtput
      active := hactive.trans (SectionState.coil_of_not_drives hstate).symm
      driveA := fun h => absurd h hnot.1
      driveB := fun h => absurd h hnot.2
      dead := fun h => absurd h (by simp [hstate])
      setpoint := fun h => absurd hsetpoint h
      unsupplied := fun _ => rfl
      resting := fun _ => rfl
      fault := hfault }

/-- A section with output 0 fits whatever the supply and the idle timer do. -/
theorem CdsSection.Fits.of_zero (h : c.Fits supply idleDue o) (ho : o = 0) {supply' : SupplyState}
    {idle' : Option Nat} : c.Fits supply' idle' o :=
  { h with unsupplied := fun _ => ho, resting := fun _ => ho }

/-- A section that drives no coil may be put in another state that drives none, its fault record replaced. -/
theorem CdsSection.Fits.setState (h : c.Fits supply idleDue o) (hrest : c.state.drives = false) {st : SectionState}
    {fault : Option FaultRecord} (hst : st.drives = false) (hfault : st = .fault ↔ fault.isSome) :
    CdsSection.Fits { c with state := st, fault := fault } supply idleDue o := by
  have hnot : st ≠ .driveA ∧ st ≠ .driveB := by
    rw [← not_or, ← SectionState.drives_iff, hst]
    nofun
  exact
    { output := h.output
      active := by rw [h.active, SectionState.coil_of_not_drives hrest, SectionState.coil_of_not_drives hst]
      driveA := fun hA => absurd hA hnot.1
      driveB := fun hB => absurd hB hnot.2
      dead := fun hdrives => absurd hdrives (by simp [hst])
      setpoint := fun hne => absurd (h.setpoint hne) (by simp [hrest])
      unsupplied := h.unsupplied
      resting := h.resting
      fault := hfault }

/-- A section with output 0 and no fault may be put at rest under any supply. -/
theorem CdsSection.Fits.put_at_rest (h : c.Fits supply idleDue o) (ho : o = 0) (hfault : c.state ≠ .fault)
    {st : SectionState} (hst : st.drives = false) (hne : st ≠ .fault) {supply' : SupplyState} {idle' : Option Nat} :
    CdsSection.Fits { c with state := st } supply' idle' o :=
  (h.of_zero ho).setState (h.not_drives ho) hst ⟨fun hf => absurd hf hne, fun hf => absurd (h.fault.2 hf) hfault⟩

end Section

/-- The soundness the statements speak of, taken apart; outside ACTIVE a setpoint is 0 since its section drives no
coil. -/
theorem State.coilsFit_iff (s : State) : s.CoilsFit ↔ s.cds.Sound ∧ s.CoilsSound := by
  constructor
  · rintro ⟨⟨hclosed, hcause, hsettle, hidle⟩, ⟨hsettleLeft, hidleLeft⟩, hsections⟩
    refine ⟨⟨hclosed, hcause, hsettle, hidle, hsettleLeft, hidleLeft, fun hsupply i => ?_, fun i => (hsections i).fault⟩,
      fun i => ?_⟩
    · exact (hsections i).setpoint_eq_zero ((hsections i).unsupplied hsupply)
    · obtain ⟨houtput, hactive, hA, hB, hdead, hsetpoint, hunsupplied, hresting, -⟩ := hsections i
      exact ⟨houtput, hactive, hA, hB, hdead, hsetpoint, hunsupplied, hresting⟩
  · rintro ⟨⟨hclosed, hcause, hsettle, hidle, hsettleLeft, hidleLeft, -, hfault⟩, hcoils⟩
    refine ⟨⟨hclosed, hcause, hsettle, hidle⟩, ⟨hsettleLeft, hidleLeft⟩, fun i => ?_⟩
    obtain ⟨houtput, hactive, hA, hB, hdead, hsetpoint, hunsupplied, hresting⟩ := hcoils i
    exact ⟨houtput, hactive, hA, hB, hdead, hsetpoint, hunsupplied, hresting, hfault i⟩

section Parts

variable {s t : State}

theorem State.CoilsFit.of_driveSide (h : s.CoilsFit) (e : t.driveSide = s.driveSide) : t.CoilsFit := by
  simp only [State.driveSide, Prod.mk.injEq] at e
  obtain ⟨-, -, hdsh, hcds⟩ := e
  obtain ⟨hsupply, htimes, hsections⟩ := h
  exact ⟨hcds ▸ hsupply, hcds ▸ htimes, hcds ▸ hdsh ▸ hsections⟩

/-- Sections of the shaper replaced, their outputs standing. -/
theorem State.CoilsFit.setDsh (h : s.CoilsFit) {d : Vector DshSection 6}
    (hd : ∀ i : Fin 6, d[i].output = s.dsh[i].output) : (s.setDsh d).CoilsFit :=
  ⟨h.supply, h.times, fun i => by
    have hi := h.sections i
    rw [← hd i] at hi
    exact hi⟩

/-- A published record shows the times left of the timers that run (R172). -/
theorem Cds.SupplyFits.publish_times {c : Cds} (h : c.SupplyFits) (now : Nat) : (c.publish now).TimesFit := by
  constructor
  · rw [Cds.publish_settleLeft, Cds.publish_settleDue]
    split
    · simp [timeLeft]
    · rename_i hne
      simpa using mt h.settleDue.1 hne
  · rw [Cds.publish_idleLeft, Cds.publish_idleDue]
    split
    · simp [timeLeft]
    · rename_i hne
      simpa using mt h.idleDue hne

/-- A new coil driver, its record published, and new sections of the shaper. -/
theorem State.CoilsFit.of_publish {c : Cds} {d : Vector DshSection 6} (hc : c.SupplyFits)
    (hsections : ∀ i : Fin 6, c.sections[i].Fits c.supply c.idleDue d[i].output) :
    ((s.publishCds c).setDsh d).CoilsFit :=
  ⟨⟨hc.closed, hc.lockCause, hc.settleDue, hc.idleDue⟩, hc.publish_times s.now, hsections⟩

end Parts

/-! #### The supply -/

section Supply

variable {s : State}

theorem restState_drives (latched : Bool) : (restState latched).drives = false := by cases latched <;> rfl

theorem restState_ne_fault (latched : Bool) : restState latched ≠ .fault := by cases latched <;> simp [restState]

theorem lockSection_fits (cfg : SectionSettings) {c : CdsSection} (hfault : c.state = .fault ↔ c.fault.isSome)
    {supply : SupplyState} {idleDue : Option Nat} : (lockSection cfg c).Fits supply idleDue 0 := by
  refine .of_rest rfl rfl ?_ rfl ((lockSection_state_eq_fault_iff cfg c).trans hfault)
  unfold lockSection
  dsimp only
  split <;> rfl

theorem lockSupply_coilsFit (cause : LockCause) (h : s.CoilsFit) : (lockSupply cause s).CoilsFit := by
  refine (State.CoilsFit.of_publish (s := s) (d := lockSections s.dsh) ⟨rfl, ?_, ?_, ?_⟩ fun i => ?_).of_driveSide
    (latch_driveSide _ _)
  · simp
  · simp
  · simp
  · simp only [Fin.getElem_fin, lockSections, Vector.getElem_ofFn]
    exact lockSection_fits _ (h.sections i).fault

theorem lockUnlessLocked_coilsFit (cause : LockCause) (h : s.CoilsFit) : (lockUnlessLocked cause s).CoilsFit := by
  unfold lockUnlessLocked
  split
  · exact h
  · exact lockSupply_coilsFit cause h

/-- A supply that is not ACTIVE, and so drives no coil, goes to WAKING from ASLEEP (R168). -/
theorem wakeSupply_coilsFit (h : s.CoilsFit) (hasleep : s.cds.supply = .asleep) : (wakeSupply s).CoilsFit := by
  refine State.CoilsFit.of_publish ⟨rfl, ?_, ?_, fun hidle => ?_⟩ fun i => ?_
  · have hcause := h.supply.lockCause
    simp_all
  · simp
  · exact absurd (h.supply.idleDue hidle) (by simp [hasleep])
  · have hfit := h.sections i
    have hzero := hfit.unsupplied (by simp [hasleep])
    simp only [Fin.getElem_fin, setLatches, Vector.getElem_ofFn, wakeSection]
    split
    · exact hfit.of_zero hzero
    · rename_i hne
      exact hfit.put_at_rest hzero hne (st := .blocked) rfl nofun

theorem driveSupply_coilsFit (halt : Bool) (h : s.CoilsFit) : (driveSupply halt s).CoilsFit := by
  rcases driveSupply_cases halt s with ⟨hsame, -⟩ | ⟨-, -, hlock⟩ | ⟨-, hasleep, hwake⟩
  · rwa [hsame]
  · rw [hlock]
    exact lockSupply_coilsFit _ h
  · rw [hwake]
    exact wakeSupply_coilsFit h hasleep

/-- The supply goes from WAKING to ACTIVE with every output 0, and the idle timer starts (R169). -/
theorem supplySettleExpired_coilsFit (h : s.CoilsFit) : (supplySettleExpired s).CoilsFit := by
  unfold supplySettleExpired
  split
  · rename_i hdue
    have hwaking : s.cds.supply = .waking := by simp_all
    refine State.CoilsFit.of_publish (s := s) (d := s.dsh) ⟨?_, ?_, ?_, fun _ => rfl⟩ fun i => ?_
    · rw [h.supply.closed, hwaking]
      rfl
    · have hcause := h.supply.lockCause
      simp_all
    · simp
    · have hfit := h.sections i
      have hzero := hfit.unsupplied (by simp [hwaking])
      simp only [Fin.getElem_fin, Vector.getElem_ofFn, activateSection]
      split
      · exact hfit.of_zero hzero
      · rename_i hne
        refine hfit.put_at_rest hzero hne ?_ ?_
        · split
          · rfl
          · exact restState_drives _
        · split
          · nofun
          · exact restState_ne_fault _
  · exact h

/-- The idle timer runs only with every output 0, so ASLEEP finds no coil driven (R170). -/
theorem idleTimerExpired_coilsFit (h : s.CoilsFit) : (idleTimerExpired s).CoilsFit := by
  unfold idleTimerExpired
  split
  · rename_i hdue
    obtain ⟨hactive, hexpired⟩ : s.cds.supply = .active ∧ isDue s.now s.cds.idleDue = true := by simpa using hdue
    have hruns : s.cds.idleDue.isSome := by
      cases hidle : s.cds.idleDue <;> simp_all
    refine (State.CoilsFit.of_publish (s := s) (d := s.dsh) ⟨rfl, ?_, ?_, ?_⟩ fun i => ?_).of_driveSide
      (latch_driveSide _ _)
    · have hcause := h.supply.lockCause
      simp_all
    · have hsettle := h.supply.settleDue
      simp_all
    · simp
    · have hfit := h.sections i
      have hzero := hfit.resting hruns
      simp only [Fin.getElem_fin, Vector.getElem_ofFn]
      have hrest := hfit.of_zero hzero (supply' := .asleep) (idle' := none)
      exact { hrest with setpoint := fun hne => absurd rfl hne }
  · exact h

end Supply

/-! #### The drive period -/

section DrivePeriod

variable {s : State}

/-- A hold of R140 stops an output, whatever the mode. -/
theorem sectionStep_output_of_hold {i : Fin 6} (h : holdStands s.cds.supply s.cds.sections[i].state = true) :
    (sectionStep s i).output = 0 := by
  have hprofile (cfg : SectionSettings) (table : Vector Nat 16) (e : EvalRecord) (factor : Nat) (d : DshSection) :
      (profileStep i cfg table e factor true d).output = 0 := by
    simp [profileStep, profileRuns, heldOutput]
  unfold sectionStep
  rw [h]
  dsimp only
  split
  · rfl
  · exact hprofile ..

/-- Outside ACTIVE a drive period leaves every output 0 (R140). -/
theorem periodShape_output_of_not_active (currents : Vector Nat 6) {i : Fin 6}
    (h : (s.judgedSupply currents).supply ≠ .active) : (s.periodShape currents i).output = 0 := by
  have hlocks : (shapeAll s).shortLocks currents = s.shortLocks currents := rfl
  have hstep : (shapeAll s).dsh[i] = sectionStep s i := by simp [shapeAll]
  unfold State.periodShape State.judgedShape
  rw [hlocks, hstep]
  unfold State.judgedSupply at h
  cases hfree : s.shortLocks currents with
  | true => rfl
  | false =>
    have hhold : holdStands s.cds.supply s.cds.sections[i].state = true := by simp_all [holdStands]
    simp [sectionStep_output_of_hold hhold]

theorem judgedSupply_supplyFits (currents : Vector Nat 6) (h : s.cds.SupplyFits) :
    (s.judgedSupply currents).SupplyFits := by
  unfold State.judgedSupply
  split
  · exact ⟨rfl, by simp [Cds.locked], by simp [Cds.locked], by simp [Cds.locked]⟩
  · exact h

theorem allOutputsZero_iff (d : Vector DshSection 6) : allOutputsZero d = true ↔ ∀ i : Fin 6, d[i].output = 0 := by
  simp [allOutputsZero]

/-- The idle timer after a drive period, by the outputs it leaves and those it found (R170). -/
theorem periodIdle_eq (s : State) (currents : Vector Nat 6) :
    s.periodIdle currents =
      if (s.judgedSupply currents).supply = .active then
        if ¬∀ i, (s.periodShape currents i).output = 0 then none
        else if ¬∀ i : Fin 6, s.dsh[i].output = 0 then some s.idleStart
        else s.cds.idleDue
      else (s.judgedSupply currents).idleDue := by
  have hstart : (judgeAll currents (shapeAll s)).idleStart = s.idleStart := by
    simp [judgeAll_eq, State.idleStart, shapeAll]
  have hsupply : (judgeAll currents (shapeAll s)).cds.supply = (s.judgedSupply currents).supply := by
    rw [judgeAll_eq]
    rfl
  have hidle : (judgeAll currents (shapeAll s)).cds.idleDue = (s.judgedSupply currents).idleDue := by
    rw [judgeAll_eq]
    rfl
  have hdsh (i : Fin 6) : (judgeAll currents (shapeAll s)).dsh[i] = s.periodShape currents i := by
    simp [judgeAll_eq, State.periodShape]
  have hsame : (s.judgedSupply currents).supply = .active → (s.judgedSupply currents).idleDue = s.cds.idleDue := by
    unfold State.judgedSupply
    split <;> simp [Cds.locked]
  simp only [State.periodIdle, idleAfterPeriod, hsupply, hstart, hidle, Bool.not_eq_true', ← Bool.not_eq_true,
    allOutputsZero_iff, hdsh]
  split
  · rename_i hactive
    rw [hsame hactive]
  · rfl

/-- The idle timer runs after a drive period only on an ACTIVE supply with every output 0 (R170). -/
theorem periodIdle_isSome (currents : Vector Nat 6) (h : s.cds.SupplyFits) (hidle : (s.periodIdle currents).isSome) :
    (s.judgedSupply currents).supply = .active ∧ ∀ i : Fin 6, (s.periodShape currents i).output = 0 := by
  have hactive : (s.judgedSupply currents).supply = .active := by
    by_contra hne
    rw [periodIdle_eq, if_neg hne] at hidle
    exact hne ((judgedSupply_supplyFits currents h).idleDue hidle)
  refine ⟨hactive, ?_⟩
  by_contra hmoves
  rw [periodIdle_eq, if_pos hactive, if_pos hmoves] at hidle
  cases hidle

/-- Steps 2 to 4 give every section the state of its output, and a setpoint in a driving state alone (R156 to R159). -/
theorem coilSection_fits (cfg : SectionSettings) (supply : SupplyState) (drove : Bool) {d : DshSection}
    {c : CdsSection} {idleDue : Option Nat} (hfault : c.state = .fault ↔ c.fault.isSome)
    (hsupply : supply ≠ .active → d.output = 0) (hidle : idleDue.isSome → d.output = 0) :
    (coilSection cfg supply drove d c).Fits supply idleDue d.output := by
  obtain ⟨hst, hA, hB⟩ := sectionStateOf_spec c.state supply (nextDead drove d.output cfg.deadTime c.dead) d.output
    d.latch
  exact
    { output := rfl
      active := rfl
      driveA := fun h => (hA h).2
      driveB := fun h => (hB h).2
      dead := fun h => ((SectionState.drives_iff _).1 h).elim (fun h => (hA h).1) fun h => (hB h).1
      setpoint := fun h => of_not_not fun hnot => h (if_neg hnot)
      unsupplied := hsupply
      resting := hidle
      fault := hst.trans hfault }

theorem judgedCoil_fault (currents : Vector Nat 6) {i : Fin 6}
    (h : s.cds.sections[i].state = .fault ↔ s.cds.sections[i].fault.isSome) :
    (s.judgedCoil currents i).state = .fault ↔ (s.judgedCoil currents i).fault.isSome := by
  have hkeeps : (s.judgedCoil currents i).fault =
      (judgeSection s.settings.sections[i] s.cds.sections[i] currents[i]).fault := by
    unfold State.judgedCoil
    cases s.shortLocks currents <;> rfl
  rw [judgedCoil_state_eq_fault_iff, hkeeps, judgeSection_fault, Bool.or_eq_true, h, or_comm]
  rfl

theorem drivePeriodTaken_coilsFit (currents : Vector Nat 6) (h : s.CoilsFit) :
    (drivePeriodTaken currents s).CoilsFit := by
  have hsupply := judgedSupply_supplyFits currents h.supply
  have hidle := periodIdle_isSome currents h.supply
  have hset : Cds.SupplyFits
      { s.judgedSupply currents with
        sections := Vector.ofFn (s.periodCoil currents), idleDue := s.periodIdle currents } :=
    ⟨hsupply.closed, hsupply.lockCause, hsupply.settleDue, fun h => (hidle h).1⟩
  have hfits (i : Fin 6) := coilSection_fits s.settings.sections[i] (s.judgedSupply currents).supply
    s.cds.sections[i].state.drives (judgedCoil_fault currents (h.sections i).fault)
    (periodShape_output_of_not_active currents) fun h => (hidle h).2 i
  refine ⟨?_, ?_, fun i => ?_⟩
  · rw [drivePeriodTaken_eq]
    exact ⟨hset.closed, hset.lockCause, hset.settleDue, hset.idleDue⟩
  · rw [drivePeriodTaken_eq]
    exact hset.publish_times s.now
  · rw [drivePeriodTaken_section, drivePeriodTaken_dsh]
    rw [drivePeriodTaken_eq]
    exact hfits i

end DrivePeriod

/-! #### Faults, demands and the restart -/

section Faults

variable {s : State}

theorem faultSection_fits (cause : FaultCause) (measured : Option Nat) (deadTime : Nat) (c : CdsSection)
    {supply : SupplyState} {idleDue : Option Nat} : (faultSection cause measured deadTime c).Fits supply idleDue 0 :=
  .of_rest rfl rfl rfl rfl (by simp [faultSection])

theorem driverTripped_coilsFit (v : ValveSection) (h : s.CoilsFit) : (driverTripped v s).CoilsFit := by
  unfold driverTripped
  dsimp only
  split
  · refine lockUnlessLocked_coilsFit _ (State.CoilsFit.of_driveSide ?_ (latch_driveSide _ _))
    refine State.CoilsFit.of_publish ⟨h.supply.closed, h.supply.lockCause, h.supply.settleDue, h.supply.idleDue⟩
      fun i => ?_
    by_cases hi : v.index = i
    · subst hi
      simpa using faultSection_fits ..
    · have hne := Fin.val_ne_of_ne hi
      simpa [hne] using h.sections i
  · exact h

theorem released_coilsFit (h : s.CoilsFit) (hlocked : s.cds.supply = .locked) : (released s).CoilsFit := by
  refine State.CoilsFit.of_publish (s := s) (d := s.dsh) ⟨?_, ?_, ?_, fun hidle => ?_⟩ fun i => ?_
  · rw [h.supply.closed, hlocked]
    rfl
  · simp
  · have hsettle := h.supply.settleDue
    simp_all
  · exact absurd (h.supply.idleDue hidle) (by simp [hlocked])
  · exact (h.sections i).of_zero ((h.sections i).unsupplied (by simp [hlocked]))

theorem releaseOwner_coilsFit (s : State) (u : Unit) (h : s.CoilsFit) : (releaseOwner u s).state.CoilsFit := by
  unfold releaseOwner
  split
  · split
    · exact h
    · exact released_coilsFit h ‹_›
  · exact h

theorem faultsCleared_coilsFit (selector : Nat) (h : s.CoilsFit) : (faultsCleared selector s).CoilsFit := by
  rw [faultsCleared_eq]
  split
  · refine State.CoilsFit.of_publish ⟨h.supply.closed, h.supply.lockCause, h.supply.settleDue, h.supply.idleDue⟩
      fun i => ?_
    have hfit := h.sections i
    simp only [Fin.getElem_fin, State.clearedCoils, State.clearedShapes, Vector.getElem_ofFn]
    split
    · rename_i hclears
      have hfault : s.cds.sections[i].state = .fault := by
        simp only [State.clears, Bool.and_eq_true, beq_iff_eq] at hclears
        exact hclears.2
      have hrest : s.cds.sections[i].state.drives = false := by
        rw [hfault]
        rfl
      exact hfit.setState hrest rfl (by simp)
    · exact hfit
  · exact h

theorem faultClearOwner_coilsFit (s : State) (selector : Nat) (h : s.CoilsFit) :
    (faultClearOwner selector s).state.CoilsFit := by
  unfold faultClearOwner
  split
  · exact h
  · exact faultsCleared_coilsFit selector h

theorem demandExpired_coilsFit (v : ValveSection) (h : s.CoilsFit) : (demandExpired v s).CoilsFit := by
  unfold demandExpired
  dsimp only
  split
  · refine State.CoilsFit.of_driveSide (h.setDsh ?_) (demandEvent_driveSide _)
    exact forall_getElem_set (p := fun i (d : DshSection) => d.output = s.dsh[i].output) (fun _ => rfl) rfl
  · exact h

theorem driveOwner_coilsFit (s : State) (r : DriveRequest) (h : s.CoilsFit) : (driveOwner r s).state.CoilsFit := by
  have hheld : (driveHeld r s).CoilsFit := h.setDsh fun i => by simp [driveSection]
  unfold driveOwner
  split
  · exact h
  · exact driveSupply_coilsFit _ (hheld.of_driveSide (demandEvent_driveSide _))

theorem restartTaken_coilsFit (h : s.CoilsFit) : (restartTaken s).CoilsFit := by
  have hset (asked : Option RestartKind) (s : State) : (restarted asked s).CoilsFit :=
    ((State.coilsFit_iff _).2 ⟨restartCds_sound _, restartBlocks_coilsSound _ _ s⟩).of_driveSide
      (latchIf_driveSide _ _ _)
  unfold restartTaken
  split
  · split
    · split
      · exact hset _ _
      · exact h
    · exact h
  · exact hset _ _

end Faults

/-! #### Every command -/

section Commands

variable {dt : Nat} {s t : State}

theorem scanned_coilsFit (raw : Vector Nat 9) (h : s.CoilsFit) : (scanned raw s).CoilsFit := by
  rw [scanned_frame]
  exact ⟨h.supply, h.times, h.sections⟩

theorem onSupply_coilsFit {act : State → State} (hact : ∀ s, s.CoilsFit → (act s).CoilsFit) (h : s.CoilsFit)
    (e : onSupply dt s act = .next t) : t.CoilsFit :=
  onSupply_keeps (P := State.CoilsFit) (fun _ _ h => ⟨h.supply, h.times, h.sections⟩) hact h e

theorem execRequest_coilsFit {α : Type} {kind : Byte} {reader : Reader α} {owner : α → State → Answer}
    (howner : ∀ s x, s.CoilsFit → (owner x s).state.CoilsFit) (h : s.CoilsFit)
    (e : execRequest dt kind reader owner s = .next t) : t.CoilsFit :=
  execRequest_keeps (P := State.CoilsFit) (fun _ _ h => ⟨h.supply, h.times, h.sections⟩)
    (fun _ _ h => ⟨h.supply, h.times, h.sections⟩) howner h e

theorem exec_coilsFit {c : Instr} (h : s.CoilsFit) (e : exec c s = .next t) : t.CoilsFit := by
  cases hc : movesDriveSide c with
  | false => exact h.of_driveSide (exec_driveSide hc e)
  | true =>
    cases c with
    | scan => exact onSupply_coilsFit (fun _ => scanned_coilsFit _) h e
    | demandExpiry => exact onSupply_coilsFit (fun _ => demandExpired_coilsFit _) h e
    | drivePeriod => exact onSupply_coilsFit (fun _ => drivePeriodTaken_coilsFit _) h e
    | driverTrip => exact onSupply_coilsFit (fun _ => driverTripped_coilsFit _) h e
    | supplySettleExpiry => exact onSupply_coilsFit (fun _ => supplySettleExpired_coilsFit) h e
    | idleTimerExpiry => exact onSupply_coilsFit (fun _ => idleTimerExpired_coilsFit) h e
    | drive => exact execRequest_coilsFit driveOwner_coilsFit h e
    | release => exact execRequest_coilsFit releaseOwner_coilsFit h e
    | faultClear => exact execRequest_coilsFit faultClearOwner_coilsFit h e
    | restart dt =>
      have htick : (s.tick dt).CoilsFit := ⟨h.supply, h.times, h.sections⟩
      exact Host.Outcome.next.inj e ▸ restartTaken_coilsFit htick
    | _ => cases hc

end Commands

/-- Settles O6: a drive period gives every section the state of its output, the supply leaves ACTIVE or enters it only
with every coil at rest, and every change of the supply publishes the times left. -/
theorem stepKeepsCoils : Obligations.StepKeepsCoils := fun s t hsupply hcoils hstep =>
  (State.coilsFit_iff t).1
    (step_keeps (P := State.CoilsFit) (fun _ _ h => ⟨h.supply, h.times, h.sections⟩)
      (fun _ _ _ h e => exec_coilsFit h e) ((State.coilsFit_iff s).2 ⟨hsupply, hcoils⟩) hstep)

end Sys2Proof.Machine
end

section
/-! ### The outputs of a drive period -/

namespace Sys2Proof.Machine

open Sys2Proof

/-! #### The shaping chain -/

theorem classFactor_eq (cfg : SectionSettings) (factor : Nat) (sign : Int) :
    (classFactor cfg factor sign : Int) =
      if (0 < sign ∧ cfg.classA = .raising) ∨ (sign < 0 ∧ cfg.classB = .raising) then (factor : Int) else 1000 := by
  unfold classFactor
  simp only [Bool.or_eq_true, Bool.and_eq_true, decide_eq_true_eq]
  split <;> rfl

theorem slewFactor_eq (e : EvalRecord) (sign : Int) :
    (slewFactor e sign : Int) = if 0 < sign then (e.slewA : Int) else e.slewB := apply_ite ..

/-- The four steps that form a target (R141). -/
theorem shape_eq (i : Fin 6) (cfg : SectionSettings) (e : EvalRecord) (factor : Nat) (sign t0 : Int) {t1 t2 t3 : Int}
    (h1 : t1 = Int.tdiv (t0 * e.slow) 1000)
    (h2 : t2 = Int.tdiv (t1 * (if (0 < sign ∧ cfg.classA = .raising) ∨ (sign < 0 ∧ cfg.classB = .raising) then
      (factor : Int) else 1000)) 1000)
    (h3 : t3 = if i = 0 then Int.tdiv (t2 * (if 0 < sign then (e.slewA : Int) else e.slewB)) 1000 else t2) :
    shape i cfg e factor sign t0 = if i = 3 ∧ 0 < sign ∧ e.intrusion = true then 0 else t3 := by
  rw [← classFactor_eq] at h2
  rw [← slewFactor_eq] at h3
  subst h1 h2 h3
  simp only [shape, Bool.and_eq_true, decide_eq_true_eq, and_assoc]
  rfl

/-! #### The ramp of regular mode -/

theorem shrinkBy_eq (step : Nat) (o : Int) {least : Nat} (h : least ≤ o.natAbs) :
    shrinkBy step o least = o.sign * ((o.natAbs : Int) - min (step : Int) (o.natAbs - least)) := by
  rw [shrinkBy, signOf_eq]
  congr 1
  omega

theorem sign_eq_or_eq_neg {o t : Int} (ho : o ≠ 0) (ht : t ≠ 0) : t.sign = o.sign ∨ t.sign = -o.sign := by
  rcases lt_or_gt_of_ne ho with ho | ho <;> rcases lt_or_gt_of_ne ht with ht | ht <;>
    simp [Int.sign_eq_neg_one_of_neg, Int.sign_eq_one_of_pos, ho, ht]

/-- The rows of R143, with SOFT and HARD by R144. -/
theorem ramp_eq (cfg : SectionSettings) (o t t0 : Int) :
    ramp cfg o t t0 =
      if o = 0 ∧ t = 0 then 0
      else if o = 0 then t.sign * (min cfg.upStep t.natAbs : Nat)
      else if t.sign = o.sign ∧ o.natAbs ≤ t.natAbs then
        o.sign * ((o.natAbs : Int) + min (cfg.upStep : Int) (t.natAbs - o.natAbs))
      else if t.sign ≠ -o.sign ∧ t ≠ t0 ∧ cfg.stopMode = .hard then t
      else if t.sign ≠ -o.sign then o.sign * ((o.natAbs : Int) - min (cfg.downStep : Int) (o.natAbs - t.natAbs))
      else o.sign * ((o.natAbs : Int) - min (cfg.downStep : Int) o.natAbs) := by
  unfold ramp
  simp only [signOf_eq]
  by_cases ho : o = 0
  · by_cases ht : t = 0 <;> simp [ho, ht]
  have hsign : o.sign ≠ -o.sign := by
    have := Int.sign_eq_zero_iff_zero.not.2 ho
    omega
  by_cases hopposite : t.sign = -o.sign
  · simpa [ho, hopposite, hsign, hsign.symm] using shrinkBy_eq cfg.downStep o (Nat.zero_le _)
  by_cases hrise : t.sign = o.sign ∧ o.natAbs ≤ t.natAbs
  · have hcast : ((o.natAbs + min cfg.upStep (t.natAbs - o.natAbs) : Nat) : Int) =
        (o.natAbs : Int) + min (cfg.upStep : Int) (t.natAbs - o.natAbs) := by omega
    rw [← hcast]
    simp [ho, hsign, hrise]
  · have hsmaller : t.natAbs ≤ o.natAbs := by
      by_contra hlarger
      have ht : t ≠ 0 := by omega
      rcases sign_eq_or_eq_neg ho ht with h | h
      · exact hrise ⟨h, by omega⟩
      · exact hopposite h
    simp [ho, hopposite, hrise, shrinkBy_eq _ _ hsmaller]

/-! #### Profile mode -/

theorem holdStands_iff (supply : SupplyState) (st : SectionState) :
    holdStands supply st = true ↔ supply ≠ .active ∨ st = .fault ∨ st = .deadtime := by
  simp [holdStands, or_assoc]

theorem profileRuns_iff (hold : Bool) (d : DshSection) :
    profileRuns hold d = true ↔
      100 ≤ |d.held| ∧ d.latch = false ∧ (d.output = 0 ∨ d.output.sign = d.held.sign) ∧ ¬hold = true := by
  have hsize : 100 ≤ d.held.natAbs ↔ 100 ≤ |d.held| := by
    rw [Int.abs_eq_natAbs]
    omega
  simp [profileRuns, signOf_eq, hsize, and_assoc]

theorem profileFall_eq (cfg : SectionSettings) (d : DshSection) :
    profileFall cfg d =
      if d.latch = false ∧ d.expired = false ∧ d.disabled = false ∧ cfg.stopMode = .hard then 0
      else d.output.sign * ((d.output.natAbs : Int) - min (cfg.downStep : Int) d.output.natAbs) := by
  have hshrink := shrinkBy_eq cfg.downStep d.output (Nat.zero_le _)
  rw [Nat.cast_zero, sub_zero] at hshrink
  unfold profileFall
  rw [hshrink]
  cases d.latch <;> cases d.expired <;> cases d.disabled <;> simp

theorem tableOf_eq : ∀ i : Fin 6, tableOf i = if i = 0 ∨ i = 4 then 0 else if i = 1 ∨ i = 2 then 1 else 2 := by
  decide

theorem ProfileRange.top_eq (r : ProfileRange) : r.top = if r = .low then 7 else 15 := by cases r <;> rfl

theorem ProfileRange.bottom_eq (r : ProfileRange) : r.bottom = if r = .high then 8 else 0 := by cases r <;> rfl

/-! #### The section that a drive period leaves -/

section Period

variable (s : State) (dt : Nat) (currents : Vector Nat 6) (i : Fin 6)

@[simp] theorem sectionStep_tick : sectionStep (s.tick dt) i = sectionStep s i := rfl
@[simp] theorem foundFault_tick : (s.tick dt).foundFault currents i = s.foundFault currents i := rfl
@[simp] theorem shortLocks_tick : (s.tick dt).shortLocks currents = s.shortLocks currents := rfl

/-- The state a drive period leads to. -/
def State.afterPeriod : State := drivePeriodTaken currents (s.tick dt)

theorem exec_drivePeriod (h : s.power.main = true) :
    exec (.drivePeriod dt currents) s = .next (s.afterPeriod dt currents) := onSupply_main dt s _ h

/-- A section after a drive period: its step, stopped by a fault or a lock, latched by a lock, its record published. -/
theorem afterPeriod_dsh :
    (s.afterPeriod dt currents).dsh[i] =
      { sectionStep s i with
        latch := (sectionStep s i).latch || s.shortLocks currents
        output :=
          if s.shortLocks currents || (s.foundFault currents i).isSome then 0 else (sectionStep s i).output
        record := (s.afterPeriod dt currents).dsh[i].record } := by
  have hstep : (shapeAll (s.tick dt)).dsh[i] = sectionStep s i := by simp [shapeAll]
  have hshape : (s.tick dt).periodShape currents i =
      { sectionStep s i with
        latch := (sectionStep s i).latch || s.shortLocks currents
        output :=
          if s.shortLocks currents || (s.foundFault currents i).isSome then 0 else (sectionStep s i).output } := by
    rw [State.periodShape, State.judgedShape, hstep]
    rfl
  rw [State.afterPeriod, drivePeriodTaken_dsh, hshape]

/-- Under a hold, and when the period puts the section in FAULT or locks the supply, the output is 0 (R140). -/
theorem afterPeriod_output_of_stop
    (h : holdStands s.cds.supply s.cds.sections[i].state = true ∨ (s.afterPeriod dt currents).cds.supply ≠ .active ∨
      (s.afterPeriod dt currents).cds.sections[i].state = .fault) :
    (s.afterPeriod dt currents).dsh[i].output = 0 := by
  rw [afterPeriod_dsh]
  dsimp only
  split
  · rfl
  · rename_i hfree
    obtain ⟨hlocks, hfound⟩ : s.shortLocks currents = false ∧ (s.foundFault currents i).isSome = false := by
      simpa using hfree
    refine sectionStep_output_of_hold ((holdStands_iff _ _).2 ?_)
    rcases h with h | h | h
    · exact (holdStands_iff _ _).1 h
    · rw [State.afterPeriod, drivePeriodTaken_supply, shortLocks_tick, hlocks] at h
      exact .inl h
    · rw [State.afterPeriod, drivePeriodTaken_state_eq_fault_iff, foundFault_tick, hfound] at h
      exact .inr (.inl (h.resolve_right nofun))

/-- Otherwise it is the output the section steps to. -/
theorem afterPeriod_output_of_free (hsupply : (s.afterPeriod dt currents).cds.supply = .active)
    (hfault : (s.afterPeriod dt currents).cds.sections[i].state ≠ .fault) :
    (s.afterPeriod dt currents).dsh[i].output = (sectionStep s i).output := by
  obtain ⟨hlocks, -⟩ := supply_active_of_drivePeriodTaken currents (s.tick dt) hsupply
  have hfound := mt (drivePeriodTaken_state_eq_fault_iff currents (s.tick dt) i).2 hfault
  rw [not_or] at hfound
  rw [afterPeriod_dsh]
  exact if_neg (by simp_all)

end Period

/-! #### A section's step by its mode -/

theorem sectionStep_regular {s : State} {i : Fin 6} (h : s.settings.sections[i].mode = .regular) :
    sectionStep s i =
      regularStep i s.settings.sections[i] s.evm s.mlm.factor
        (holdStands s.cds.supply s.cds.sections[i].state) s.dsh[i] := by
  unfold sectionStep
  dsimp only
  rw [h]

theorem sectionStep_profile {s : State} {i : Fin 6} (h : s.settings.sections[i].mode = .profile) :
    sectionStep s i =
      profileStep i s.settings.sections[i] s.settings.profiles[tableOf i] s.evm s.mlm.factor
        (holdStands s.cds.supply s.cds.sections[i].state) s.dsh[i] := by
  unfold sectionStep
  dsimp only
  rw [h]

/-! #### Regular mode -/

/-- Settles O33: T0, T and the requested coil are the section's step, and the output is the ramp where nothing stops it. -/
theorem drivePeriodRegularMode : Obligations.DrivePeriodRegularMode := by
  intro s dt currents i hmain hmode
  have hdsh := afterPeriod_dsh s dt currents i
  have hstop := afterPeriod_output_of_stop s dt currents i
  have hfree := afterPeriod_output_of_free s dt currents i
  have hexec := exec_drivePeriod s dt currents hmain
  rw [sectionStep_regular hmode] at hdsh hfree
  rw [holdStands_iff] at hstop
  set t := s.afterPeriod dt currents
  have ht0 : t.dsh[i].t0 = if s.dsh[i].latch then 0 else s.dsh[i].held := by rw [hdsh]; rfl
  have htarget : t.dsh[i].target =
      shape i s.settings.sections[i] s.evm s.mlm.factor t.dsh[i].t0 t.dsh[i].t0 := by rw [hdsh]; rfl
  have hrequested : t.dsh[i].requested = coilOfSign t.dsh[i].t0 := by rw [hdsh]; rfl
  refine ⟨t, _, _, _, hexec, ht0, rfl, rfl, rfl, htarget.trans (shape_eq _ _ _ _ _ _ rfl rfl rfl), hrequested, ?_, ?_, ?_,
    fun h => hstop ?_, ?_⟩
  · rw [hdsh]; rfl
  · rw [hdsh]; rfl
  · rw [hdsh]; rfl
  · rcases h with h | h | h | h | h
    · exact .inl (.inl h)
    · exact .inr (.inl h)
    · exact .inl (.inr (.inl h))
    · exact .inr (.inr h)
    · exact .inl (.inr (.inr h))
  · rintro ⟨hsupply, hsupply', hfault, hfault', hdead⟩ o T T0 up down rfl rfl rfl rfl rfl
    have hhold : holdStands s.cds.supply s.cds.sections[i].state = false := by
      rw [← Bool.not_eq_true, holdStands_iff, not_or, not_or, not_not]
      exact ⟨hsupply, hfault, hdead⟩
    rw [← ramp_eq, hfree hsupply' hfault', htarget, ht0, hhold]
    rfl

/-! #### Profile mode -/

section Profile

variable {i : Fin 6} {cfg : SectionSettings} {table : Vector Nat 16} {e : EvalRecord} {factor : Nat} {hold : Bool}
  {d : DshSection}

/-- The index a running section takes its entry at (R147, R148). -/
def profileIndex (cfg : SectionSettings) (d : DshSection) : Nat := if d.running then d.index else cfg.startIndex

/-- The divider count a running section goes on from (R147, R148). -/
def profileDivider (d : DshSection) : Nat := if d.running then d.divider else 0

theorem profileStep_of_runs (h : profileRuns hold d = true) :
    profileStep i cfg table e factor hold d =
      { d with
        t0 := d.held.sign * ((table.toList.getD (profileIndex cfg d) 0 : Nat) : Int)
        target := shape i cfg e factor d.held
          (d.held.sign * ((table.toList.getD (profileIndex cfg d) 0 : Nat) : Int))
        output := shape i cfg e factor d.held
          (d.held.sign * ((table.toList.getD (profileIndex cfg d) 0 : Nat) : Int))
        requested := coilOfSign (d.held.sign * ((table.toList.getD (profileIndex cfg d) 0 : Nat) : Int))
        running := true
        index := nextIndex cfg (profileIndex cfg d) (profileDivider d)
        divider := nextDivider cfg (profileDivider d) } := by
  rw [← signOf_eq]
  exact if_pos h

theorem profileStep_of_stands (h : profileRuns hold d = false) :
    profileStep i cfg table e factor hold d =
      { d with
        t0 := 0
        target := 0
        output := heldOutput hold (profileFall cfg d)
        requested := .none
        running := false } := if_neg (by simp [h])

/-- The step of index and divider (R148). -/
theorem next_of_lt {index divider : Nat} (h : divider + 1 < cfg.stepDivider) :
    nextDivider cfg divider = divider + 1 ∧ nextIndex cfg index divider = index := ⟨if_pos h, if_pos h⟩

theorem next_of_le {index divider : Nat} (h : cfg.stepDivider ≤ divider + 1) :
    nextDivider cfg divider = 0 ∧
      nextIndex cfg index divider =
        if index < (if cfg.range = .low then 7 else 15) then index + 1
        else if cfg.endMode = .autostop then index
        else if cfg.range = .high then 8 else 0 := by
  refine ⟨if_neg (by omega), ?_⟩
  rw [nextIndex, if_neg (by omega), ProfileRange.top_eq, ProfileRange.bottom_eq]
  cases cfg.endMode <;> rfl

end Profile

/-- Settles O34: a section that runs takes the table's entry through the shaping chain, and one that does not falls. -/
theorem drivePeriodProfileMode : Obligations.DrivePeriodProfileMode := by
  intro s dt currents i hold runs hmain hmode hhold hruns
  have hdsh := afterPeriod_dsh s dt currents i
  have hstop := afterPeriod_output_of_stop s dt currents i
  have hfree := afterPeriod_output_of_free s dt currents i
  have hexec := exec_drivePeriod s dt currents hmain
  rw [← holdStands_iff] at hhold
  rw [hhold, ← profileRuns_iff] at hruns
  rw [sectionStep_profile hmode] at hdsh hfree
  set t := s.afterPeriod dt currents
  refine ⟨t, hexec, fun h => hstop (h.imp_left hhold.1), fun h => ?_, fun h => ?_⟩
  · rw [profileStep_of_runs (hruns.1 h)] at hdsh hfree
    have ht0 : t.dsh[i].t0 = s.dsh[i].held.sign * ((s.settings.profiles[tableOf i].toList.getD
        (profileIndex s.settings.sections[i] s.dsh[i]) 0 : Nat) : Int) := by rw [hdsh]
    have htarget : t.dsh[i].target = shape i s.settings.sections[i] s.evm s.mlm.factor s.dsh[i].held t.dsh[i].t0 := by
      rw [ht0, hdsh]
    have hrequested : t.dsh[i].requested = coilOfSign t.dsh[i].t0 := by rw [ht0, hdsh]
    have hindex : t.dsh[i].index = nextIndex s.settings.sections[i] (profileIndex s.settings.sections[i] s.dsh[i])
        (profileDivider s.dsh[i]) := by rw [hdsh]
    have hdivider : t.dsh[i].divider = nextDivider s.settings.sections[i] (profileDivider s.dsh[i]) := by rw [hdsh]
    refine ⟨profileIndex s.settings.sections[i] s.dsh[i], profileDivider s.dsh[i], tableOf i, _, _, _, _, rfl, rfl,
      tableOf_eq i, fun k hk => ?_, fun _ => ⟨ht0, rfl, rfl, rfl,
        htarget.trans (shape_eq _ _ _ _ _ _ rfl rfl rfl), fun hsupply hfault => ?_⟩, hrequested, ?_, fun hlt => ?_,
      fun hle => ?_⟩
    · rw [← hk]
      exact toList_getD_val _ k 0
    · rw [hfree hsupply hfault, htarget, ht0]
    · rw [hdsh]
    · rw [hindex, hdivider]
      exact next_of_lt hlt
    · rw [hindex, hdivider]
      exact next_of_le hle
  · have hstands := Bool.eq_false_iff.2 (mt hruns.2 h)
    rw [profileStep_of_stands hstands] at hdsh hfree
    refine ⟨?_, ?_, ?_, ?_, ?_, ?_, fun hnot hsupply hfault => ?_⟩
    iterate 6 rw [hdsh]
    rw [hfree hsupply hfault, ← profileFall_eq, Bool.eq_false_iff.2 (mt hhold.2 hnot)]
    rfl

end Sys2Proof.Machine
end

section
/-! ### The coils, the idle timer and the latches of a drive period -/

namespace Sys2Proof.Machine

open Sys2Proof

/-! #### The dead time -/

section Section

variable {s : State} {currents : Vector Nat 6} {i : Fin 6}

/-- Only a section that drives a coil is found faulty. -/
theorem State.CoilsFit.drives_of_found (h : s.CoilsFit) (hfound : (s.foundFault currents i).isSome) :
    s.cds.sections[i].state.drives = true := by
  have hdriven := driven_of_judge _ _ hfound
  simp only [CdsSection.driven, Bool.and_eq_true, decide_eq_true_eq] at hdriven
  exact (h.sections i).setpoint (by omega)

/-- Step 1 sets the dead-time count of a driving section that it stops, and leaves every other (R158). -/
theorem State.CoilsFit.judgedCoil_dead (h : s.CoilsFit) :
    (s.judgedCoil currents i).dead =
      if s.cds.sections[i].state.drives ∧ (s.shortLocks currents ∨ (s.foundFault currents i).isSome) then
        s.settings.sections[i].deadTime
      else s.cds.sections[i].dead := by
  have hdrives := h.drives_of_found (currents := currents) (i := i)
  have hstate := judgeSection_state s.settings.sections[i] s.cds.sections[i] currents[i]
  have hdead := judgeSection_dead s.settings.sections[i] s.cds.sections[i] currents[i]
  change _ = if (s.foundFault currents i).isSome then _ else _ at hstate hdead
  have hfault : SectionState.fault.drives = false := rfl
  unfold State.judgedCoil
  cases hfound : (s.foundFault currents i).isSome with
  | true =>
    have hmoves := hdrives hfound
    rw [hfound, if_pos rfl] at hstate hdead
    simp only [Fin.getElem_fin] at hstate hdead hmoves
    cases s.shortLocks currents <;> simp [hmoves, hstate, hdead, hfault, lockSection]
  | false =>
    rw [hfound, if_neg nofun] at hstate hdead
    simp only [Fin.getElem_fin] at hstate hdead
    cases s.shortLocks currents <;> simp [hstate, hdead, lockSection]

end Section

/-! #### What the period leaves of a section -/

section Period

variable (s : State) (dt : Nat) (currents : Vector Nat 6) (i : Fin 6)

/-- A section's step keeps what only a Drive, an expiry and a latch move. -/
theorem sectionStep_keeps :
    (sectionStep s i).held = s.dsh[i].held ∧ (sectionStep s i).expiryDue = s.dsh[i].expiryDue ∧
      (sectionStep s i).expired = s.dsh[i].expired ∧ (sectionStep s i).disabled = s.dsh[i].disabled := by
  unfold sectionStep profileStep
  dsimp only
  split
  · exact ⟨rfl, rfl, rfl, rfl⟩
  · split <;> exact ⟨rfl, rfl, rfl, rfl⟩

/-- A section of the coil driver after the period, by the section of the shaper beside it (R156 to R159). -/
theorem afterPeriod_section :
    (s.afterPeriod dt currents).cds.sections[i] =
      coilSection s.settings.sections[i] (s.afterPeriod dt currents).cds.supply s.cds.sections[i].state.drives
        (s.afterPeriod dt currents).dsh[i] (s.judgedCoil currents i) := by
  have hsupply : (s.afterPeriod dt currents).cds.supply = (s.judgedSupply currents).supply := by
    rw [State.afterPeriod, drivePeriodTaken_eq]
    rfl
  rw [hsupply, State.afterPeriod, drivePeriodTaken_section, drivePeriodTaken_dsh]
  rfl

theorem afterPeriod_record :
    (s.afterPeriod dt currents).dsh[i].record =
      sectionRecordOf (s.now + dt) s.settings.sections[i] (s.afterPeriod dt currents).dsh[i] := by
  rw [State.afterPeriod, drivePeriodTaken_dsh]
  rfl

end Period

section Section

variable {s : State} {dt : Nat} {currents : Vector Nat 6} {i : Fin 6}

/-- The dead-time count after the period: set when a driving section's output is now 0, else run down (R158). -/
theorem State.CoilsFit.afterPeriod_dead (h : s.CoilsFit) :
    (s.afterPeriod dt currents).cds.sections[i].dead =
      if s.cds.sections[i].state.drives = true ∧ (s.afterPeriod dt currents).dsh[i].output = 0 then
        s.settings.sections[i].deadTime
      else s.cds.sections[i].dead - 1 := by
  have hstopped : s.shortLocks currents = true ∨ (s.foundFault currents i).isSome = true →
      (s.afterPeriod dt currents).dsh[i].output = 0 := fun hstop => by
    rw [afterPeriod_dsh]
    exact if_pos (by simpa using hstop)
  rw [afterPeriod_section]
  change nextDead _ _ _ (s.judgedCoil currents i).dead = _
  rw [nextDead, h.judgedCoil_dead]
  by_cases hset : s.cds.sections[i].state.drives = true ∧ (s.afterPeriod dt currents).dsh[i].output = 0
  · rw [if_pos (by simpa using hset), if_pos hset]
  · rw [if_neg (by simpa using hset), if_neg hset, if_neg fun hstop => hset ⟨hstop.1, hstopped hstop.2⟩]

/-- The first row of R157 that applies, with no fault. -/
theorem sectionStateOf_of_no_fault {st : SectionState} (h : st ≠ .fault) (supply : SupplyState) (dead : Nat) (o : Int)
    (latched : Bool) :
    sectionStateOf st supply dead o latched =
      if supply ≠ .active then (if latched then .blocked else .idle)
      else if 0 < dead then .deadtime
      else if 0 < o then .driveA
      else if o < 0 then .driveB
      else if latched then .blocked
      else .idle := if_neg h

/-- The coil of a state (section 8.1). -/
theorem SectionState.coil_eq (st : SectionState) :
    st.coil = if st = .driveA then .a else if st = .driveB then .b else .none := by
  cases st <;> rfl

/-- The setpoint of a section after the period (R159). -/
theorem coilSection_setpoint (cfg : SectionSettings) (supply : SupplyState) (drove : Bool) (d : DshSection)
    (c : CdsSection) :
    (coilSection cfg supply drove d c).setpoint =
      if (coilSection cfg supply drove d c).state = .driveA ∨ (coilSection cfg supply drove d c).state = .driveB then
        cfg.iMin + d.output.natAbs * (cfg.iMax - cfg.iMin) / 1000
      else 0 := by
  obtain ⟨-, hA, hB⟩ := sectionStateOf_spec c.state supply (nextDead drove d.output cfg.deadTime c.dead) d.output
    d.latch
  simp only [coilSection, SectionState.drives_iff]
  split
  · rename_i hdrives
    have hmoves : d.output ≠ 0 := by
      rcases hdrives with h | h
      · exact (hA h).2.ne'
      · exact (hB h).2.ne
    exact if_neg hmoves
  · rfl

end Section

/-! #### The latches -/

section Latches

variable {s : State} {dt : Nat} {currents : Vector Nat 6}

theorem State.faultLatched_frame (s : State) (currents : Vector Nat 6) :
    s.faultLatched currents = s.setClp (s.faultLatched currents).clp := by
  rw [State.faultLatched, latchIf_frame, latchIf_frame _ _ s]
  rfl

/-- The period moves the clock, the shaper, the coil driver and the port alone. -/
theorem afterPeriod_frame (s : State) (dt : Nat) (currents : Vector Nat 6) :
    s.afterPeriod dt currents =
      { s with
        now := s.now + dt
        dsh := (s.afterPeriod dt currents).dsh
        cds := (s.afterPeriod dt currents).cds
        clp := (s.faultLatched currents).clp } := by
  have hclp : ((s.tick dt).faultLatched currents).clp = (s.faultLatched currents).clp :=
    latchIf_clp_congr _ _ (by simp) (latchIf_clp_congr _ _ rfl rfl)
  have hframe := drivePeriodTaken_frame currents (s.tick dt)
  rw [State.faultLatched_frame, hclp] at hframe
  exact hframe

/-- CoilFault is latched when a section enters FAULT, SupplyLocked when the supply enters LOCKED (R163, R165). -/
theorem State.CoilsFit.periodLatches_eq (h : s.CoilsFit) :
    s.periodLatches (s.afterPeriod dt currents) = s.faultLatched currents := by
  have hfault : decide (∃ i : Fin 6, s.cds.sections[i].state ≠ .fault ∧
      (s.afterPeriod dt currents).cds.sections[i].state = .fault) = s.anyFound currents := by
    have henters (i : Fin 6) : (s.cds.sections[i].state ≠ .fault ∧
        (s.afterPeriod dt currents).cds.sections[i].state = .fault) ↔ (s.foundFault currents i).isSome := by
      rw [State.afterPeriod, drivePeriodTaken_state_eq_fault_iff]
      refine ⟨fun ⟨hnot, hnow⟩ => hnow.resolve_left hnot, fun hfound => ⟨fun hnow => ?_, .inr hfound⟩⟩
      have hdrives := h.drives_of_found hfound
      rw [hnow] at hdrives
      cases hdrives
    simp only [henters]
    rw [Bool.eq_iff_iff]
    simp [State.anyFound]
  have hlock : decide (s.cds.supply ≠ .locked ∧ (s.afterPeriod dt currents).cds.supply = .locked) =
      s.shortLocks currents := by
    have hnot : s.shortLocks currents = true → s.cds.supply ≠ .locked := by simp [State.shortLocks]
    rw [State.afterPeriod, drivePeriodTaken_supply, shortLocks_tick]
    cases hlocks : s.shortLocks currents <;> simp_all
  simp only [State.periodLatches, latch_ite]
  rw [hfault, hlock, State.faultLatched]

end Latches

/-! #### The idle timer and the times left -/

section Timers

variable {s : State} {dt : Nat} {currents : Vector Nat 6}

/-- On an ACTIVE supply the idle timer follows the outputs (R170). -/
theorem afterPeriod_idleDue (h : (s.afterPeriod dt currents).cds.supply = .active) :
    (s.afterPeriod dt currents).cds.idleDue =
      if ¬∀ i : Fin 6, (s.afterPeriod dt currents).dsh[i].output = 0 then none
      else if ¬∀ i : Fin 6, s.dsh[i].output = 0 then some (s.now + dt + s.settings.common.idleTime * 1000)
      else s.cds.idleDue := by
  have hsupply : ((s.tick dt).judgedSupply currents).supply = .active := by
    rw [← h, State.afterPeriod, drivePeriodTaken_eq]
    rfl
  have houtput (i : Fin 6) : ((s.tick dt).periodShape currents i).output = (s.afterPeriod dt currents).dsh[i].output := by
    rw [State.afterPeriod, drivePeriodTaken_dsh]
  rw [State.afterPeriod, drivePeriodTaken_idleDue, periodIdle_eq, if_pos hsupply]
  simp only [houtput]
  rfl

theorem afterPeriod_timesLeft (s : State) (dt : Nat) (currents : Vector Nat 6) :
    (s.afterPeriod dt currents).cds = (s.afterPeriod dt currents).cds.publish (s.now + dt) := by
  rw [State.afterPeriod, drivePeriodTaken_eq]
  rfl

end Timers

/-- Settles O35: the section's step gives the output, and the coil driver follows the output the period leaves. -/
theorem drivePeriodSetsCoils : Obligations.DrivePeriodSetsCoils := by
  intro s dt currents hmain hsound hcoils
  have h : s.CoilsFit := (State.coilsFit_iff s).2 ⟨hsound, hcoils⟩
  have hframe := afterPeriod_frame s dt currents
  have hnow : (s.afterPeriod dt currents).now = s.now + dt := congrArg State.now hframe
  refine ⟨s.afterPeriod dt currents, exec_drivePeriod s dt currents hmain, hnow, fun i => ?_, ?_, ?_, ?_, ?_⟩
  · have hsection := afterPeriod_section s dt currents i
    have hdsh := afterPeriod_dsh s dt currents i
    obtain ⟨hheld, hdue, hexpired, hdisabled⟩ := sectionStep_keeps s i
    have hstate : (s.afterPeriod dt currents).cds.sections[i].state =
        sectionStateOf (s.judgedCoil currents i).state (s.afterPeriod dt currents).cds.supply
          (s.afterPeriod dt currents).cds.sections[i].dead (s.afterPeriod dt currents).dsh[i].output
          (s.afterPeriod dt currents).dsh[i].latch := by
      rw [hsection]
      rfl
    have hactive : (s.afterPeriod dt currents).cds.sections[i].active =
        (s.afterPeriod dt currents).cds.sections[i].state.coil := by
      rw [hsection]
      rfl
    refine ⟨?_, ?_, fun hno => ?_, hactive.trans (SectionState.coil_eq _), ?_, ?_, ?_, ?_, ?_, ?_⟩
    · rw [hsection]
      rfl
    · rw [h.afterPeriod_dead]
      simp only [SectionState.drives_iff]
    · rw [hstate] at hno
      rw [hstate, sectionStateOf_of_no_fault (mt (sectionStateOf_spec ..).1.2 hno)]
    · rw [hsection]
      exact coilSection_setpoint ..
    · rw [hdsh]
      exact hheld
    · rw [hdsh]
      exact hdue
    · rw [hdsh]
      exact hexpired
    · rw [hdsh]
      exact hdisabled
    · rw [hnow]
      exact afterPeriod_record ..
  · intro hactive
    rw [afterPeriod_idleDue hactive, hnow]
    refine ⟨fun ⟨i, hi⟩ => if_pos fun hall => hi (hall i), fun hall ⟨i, hi⟩ => ?_, fun hall => ?_⟩
    · rw [if_neg (not_not.2 hall), if_pos fun hbefore => hi (hbefore i)]
    · rw [if_neg (not_not.2 fun i => (hall i).1), if_neg (not_not.2 fun i => (hall i).2)]
  · rw [hnow]
    exact congrArg Cds.settleLeft (afterPeriod_timesLeft s dt currents)
  · rw [hnow]
    exact congrArg Cds.idleLeft (afterPeriod_timesLeft s dt currents)
  · rw [h.periodLatches_eq, hnow]
    exact hframe

end Sys2Proof.Machine
end

section
/-! ### The driver trip -/

namespace Sys2Proof.Machine

open Sys2Proof

/-- A section that goes to FAULT is as the lock of the supply would leave it. -/
theorem lockSection_faultSection (cfg : SectionSettings) (cause : FaultCause) (measured : Option Nat) (deadTime : Nat)
    (c : CdsSection) :
    lockSection cfg (faultSection cause measured deadTime c) = faultSection cause measured deadTime c := rfl

section Trip

variable (v : ValveSection) (s : State)

/-- The sections of the coil driver after a driver trip, before a lock (R162). -/
def State.trippedCoils : Vector CdsSection 6 :=
  s.cds.sections.set v.index
    (faultSection .short none s.settings.sections[v.index].deadTime s.cds.sections[v.index])

/-- The sections of the shaper after a driver trip, before a lock (R138). -/
def State.trippedShapes : Vector DshSection 6 := s.dsh.set v.index { s.dsh[v.index] with output := 0 }

theorem driverTripped_of_not_driven (h : s.cds.sections[v.index].driven = false) : driverTripped v s = s :=
  if_neg (by simpa using h)

/-- The trip of a driven section under a LOCKED supply (R162). -/
theorem driverTripped_of_locked (h : s.cds.sections[v.index].driven = true) (hlocked : s.cds.supply = .locked) :
    driverTripped v s =
      ((latch .coilFault s).setCds
        { s.cds with sections := s.trippedCoils v, settleLeft := none, idleLeft := none }).setDsh
          (s.trippedShapes v) := by
  have hpublish : Cds.publish { s.cds with sections := s.trippedCoils v } s.now =
      { s.cds with sections := s.trippedCoils v, settleLeft := none, idleLeft := none } := by
    simp [Cds.publish, hlocked]
  rw [← hpublish, ← latch_setCds_setDsh]
  refine (if_pos h).trans (if_pos ?_)
  simpa using hlocked

/-- The trip of a driven section under any other supply locks it (R162, R165). -/
theorem driverTripped_of_not_locked (h : s.cds.sections[v.index].driven = true) (hlocked : s.cds.supply ≠ .locked) :
    driverTripped v s =
      ((latch .supplyLocked (latch .coilFault s)).setCds
        (Cds.locked { s.cds with sections := s.trippedCoils v } .coilShort s.settings.sections)).setDsh
          (lockSections (s.trippedShapes v)) := by
  have hset : (latch .coilFault s).settings = s.settings := latch_settings ..
  have htripped : driverTripped v s = lockSupply .coilShort
      (((latch .coilFault s).setCds (Cds.publish { s.cds with sections := s.trippedCoils v } s.now)).setDsh
        (s.trippedShapes v)) := by
    rw [← latch_setCds_setDsh]
    refine (if_pos h).trans (if_neg ?_)
    simpa using hlocked
  rw [htripped, lockSupply_eq, latch_setCds_setDsh, State.setCds_setDsh_absorb]
  simp only [State.setDsh_settings, State.setCds_settings, hset]
  rfl

end Trip

theorem trippedCoils_self (v : ValveSection) (s : State) :
    (s.trippedCoils v)[v.index] =
      faultSection .short none s.settings.sections[v.index].deadTime s.cds.sections[v.index] := by
  simp [State.trippedCoils]

theorem trippedCoils_other {v : ValveSection} {i : Fin 6} (h : i ≠ v.index) (s : State) :
    (s.trippedCoils v)[i] = s.cds.sections[i] := by
  simp [State.trippedCoils, Fin.val_ne_of_ne h.symm]

theorem trippedShapes_self (v : ValveSection) (s : State) :
    (s.trippedShapes v)[v.index] = { s.dsh[v.index] with output := 0 } := by
  simp [State.trippedShapes]

theorem trippedShapes_other {v : ValveSection} {i : Fin 6} (h : i ≠ v.index) (s : State) :
    (s.trippedShapes v)[i] = s.dsh[i] := by
  simp [State.trippedShapes, Fin.val_ne_of_ne h.symm]

theorem latch_tick_clp (src : ChangeSource) (s : State) (dt : Nat) : (latch src (s.tick dt)).clp = (latch src s).clp :=
  latchIf_clp_congr true src rfl rfl

theorem CdsSection.driven_iff (c : CdsSection) : c.driven = true ↔ c.active ≠ .none ∧ 0 < c.setpoint := by
  simp [CdsSection.driven]

theorem locked_section (c : Cds) (cause : LockCause) (cfgs : Vector SectionSettings 6) (i : Fin 6) :
    (c.locked cause cfgs).sections[i] = lockSection cfgs[i] c.sections[i] := by
  simp [Cds.locked]

theorem lockSection_eq (cfg : SectionSettings) (c : CdsSection) :
    lockSection cfg c =
      { c with
        state := if c.state = .fault then .fault else .blocked
        output := 0
        active := .none
        setpoint := 0
        dead := if c.state = .driveA ∨ c.state = .driveB then cfg.deadTime else c.dead } := by
  simp only [lockSection, SectionState.drives_iff]

theorem lockSections_getElem (d : Vector DshSection 6) (i : Fin 6) :
    (lockSections d)[i] = { d[i] with latch := true, output := 0 } := by
  simp [lockSections]

/-- A lock stops and latches a section whatever the trip did to it. -/
theorem lockSections_trippedShapes (v : ValveSection) (s : State) (i : Fin 6) :
    (lockSections (s.trippedShapes v))[i] = { s.dsh[i] with latch := true, output := 0 } := by
  rw [lockSections_getElem]
  by_cases hi : i = v.index
  · rw [hi, trippedShapes_self]
  · rw [trippedShapes_other hi]

/-- Settles O37: the tripped section goes to FAULT, and a supply that is not LOCKED is locked over it. -/
theorem driverTripFaultsSection : Obligations.DriverTripFaultsSection := by
  intro s dt v hmain
  have hexec : exec (.driverTrip dt v) s = .next (driverTripped v (s.tick dt)) := onSupply_main dt s _ hmain
  have hcoil := latch_frame .coilFault (s.tick dt)
  have hsupply := latch_frame .supplyLocked (latch .coilFault (s.tick dt))
  have hcoilClp := latch_tick_clp .coilFault s dt
  have hsupplyClp : (latch .supplyLocked (latch .coilFault (s.tick dt))).clp =
      (latch .supplyLocked (latch .coilFault s)).clp :=
    latchIf_clp_congr true _ (by simp) hcoilClp
  refine ⟨fun hactive hsetpoint => ⟨_, hexec, ?_⟩, fun hnot => ?_⟩
  · have hdriven := (CdsSection.driven_iff s.cds.sections[v.index]).2 ⟨hactive, hsetpoint⟩
    by_cases hlocked : s.cds.supply = .locked
    · rw [driverTripped_of_locked v (s.tick dt) hdriven hlocked]
      refine ⟨trippedCoils_self v (s.tick dt), congrArg DshSection.output (trippedShapes_self v (s.tick dt)),
        fun hne => absurd hlocked hne, fun _ => ⟨rfl, trippedShapes_self v (s.tick dt), fun i hi =>
          ⟨trippedShapes_other hi (s.tick dt), trippedCoils_other hi (s.tick dt)⟩⟩, ?_⟩
      rw [if_pos hlocked, ← hcoilClp, hcoil]
      rfl
    · rw [driverTripped_of_not_locked v (s.tick dt) hdriven hlocked]
      have hshapes := lockSections_trippedShapes v (s.tick dt)
      refine ⟨?_, congrArg DshSection.output (hshapes v.index), fun _ => ⟨rfl, fun i => ⟨hshapes i, fun hi => ?_⟩⟩,
        fun heq => absurd heq hlocked, ?_⟩
      · refine (locked_section _ _ _ _).trans ?_
        rw [trippedCoils_self]
        exact lockSection_faultSection ..
      · refine (locked_section _ _ _ _).trans ?_
        rw [trippedCoils_other hi]
        exact lockSection_eq ..
      · rw [if_neg hlocked, ← hsupplyClp, hsupply, hcoil]
        rfl
  · have hdriven : s.cds.sections[v.index].driven = false := by
      rw [← Bool.not_eq_true, CdsSection.driven_iff]
      rintro ⟨hactive, hsetpoint⟩
      exact hnot.elim hactive hsetpoint.ne'
    rw [hexec, driverTripped_of_not_driven v (s.tick dt) hdriven]
    rfl

end Sys2Proof.Machine
end

section
/-! ### Section config, Profile write and Fault clear -/

namespace Sys2Proof.Machine

open Sys2Proof

/-! #### Section config -/

section SectionConfig

variable {r : SectionConfigRequest}

theorem sectionApply_of_empty (h : sectionEmpty r = true) (c : SectionSettings) (m : CommonSettings) :
    sectionApply r c = c ∧ commonApply r m = m ∧ needsStopped r = false := by
  simp only [sectionEmpty, Bool.and_eq_true, Option.isNone_iff_eq_none, and_assoc] at h
  obtain ⟨hmode, hup, hdown, hstop, hclassA, hclassB, hrange, hstart, hdivider, hend, hdead, hmin, hmax, hexpiry, hidle,
    hsettle⟩ := h
  simp [sectionApply, commonApply, needsStopped, hmode, hup, hdown, hstop, hclassA, hclassB, hrange, hstart, hdivider,
    hend, hdead, hmin, hmax, hexpiry, hidle, hsettle]

/-- Sound settings with the fields replaced are sound when every field lies in its range and they agree (R151). -/
theorem sectionApply_sound_iff (r : SectionConfigRequest) {c : SectionSettings} {m : CommonSettings} (hc : c.Sound)
    (hm : m.Sound) :
    ((sectionApply r c).Sound ∧ (commonApply r m).Sound) ↔
      sectionInRange r = true ∧ (sectionApply r c).consistent = true := by
  refine ⟨fun ⟨hc', hm'⟩ => ⟨?_, ?_⟩, fun ⟨hr, hagree⟩ => ⟨sectionApply_sound hr hagree hc, commonApply_sound hr hm⟩⟩
  · simp only [SectionSettings.Sound, CommonSettings.Sound, inRange_iff] at hc hm hc' hm'
    obtain ⟨hup, hdown, hstart, hdivider, hdead, hmin, hmax, -⟩ := hc
    obtain ⟨hup', hdown', hstart', hdivider', hdead', hmin', hmax', -⟩ := hc'
    obtain ⟨hexpiry, hidle, hsettle⟩ := hm
    obtain ⟨hexpiry', hidle', hsettle'⟩ := hm'
    simp only [sectionInRange, Bool.and_eq_true, and_assoc]
    exact ⟨(optRange_iff_getD hup _).2 hup', (optRange_iff_getD hdown _).2 hdown',
      (optRange_iff_getD ⟨Nat.zero_le _, hstart⟩ _).2 ⟨Nat.zero_le _, hstart'⟩, (optRange_iff_getD hdivider _).2 hdivider',
      (optRange_iff_getD ⟨Nat.zero_le _, hdead⟩ _).2 ⟨Nat.zero_le _, hdead'⟩,
      (optRange_iff_getD ⟨Nat.zero_le _, hmin⟩ _).2 ⟨Nat.zero_le _, hmin'⟩, (optRange_iff_getD hmax _).2 hmax',
      (optRange_iff_getD hexpiry _).2 hexpiry', (optRange_iff_getD hidle _).2 hidle',
      (optRange_iff_getD hsettle _).2 hsettle'⟩
  · obtain ⟨-, -, -, -, -, -, -, hagree⟩ := hc'
    exact hagree

variable {s : State} {i : Fin 6}

theorem sectionConfigOwner_of_bad_number (h : 5 < r.sec) (s : State) : sectionConfigOwner r s = refuse .badField s := by
  simp [sectionConfigOwner, finOf_of_le (n := 6) h]

/-- The settings, the section's and the common ones, with the fields of a Section config replaced. -/
def Settings.configured (x : Settings) (i : Fin 6) (r : SectionConfigRequest) : Settings :=
  { x with sections := x.sections.set i (sectionApply r x.sections[i]), common := commonApply r x.common }

/-- The Section config reply of a section with these settings (R151). -/
def State.configReply (s : State) (i : Fin 6) (r : SectionConfigRequest) : ReplyBody :=
  .sectionConfig (sectionApply r s.settings.sections[i]) (commonApply r s.settings.common) s.dsh[i].recordNow

/-- On sound settings Section config refuses exactly what would not be sound, and what a moving section must not change
(R151, R152). -/
theorem sectionConfigOwner_eq (hi : r.sec = i.val) (hc : s.settings.sections[i].Sound) (hm : s.settings.common.Sound) :
    sectionConfigOwner r s =
      if (sectionApply r s.settings.sections[i]).Sound ∧ (commonApply r s.settings.common).Sound then
        if needsStopped r && s.dsh[i].record.moving then refuse .state s
        else answerDone (s.setSettings (s.settings.configured i r)) (s.configReply i r)
      else refuse .badField s := by
  have hreply : (sectionConfigured i r s).sectionReply i = s.configReply i r := by
    simp [State.sectionReply, sectionConfigured, State.configReply]
  unfold sectionConfigOwner
  rw [hi, finOf_val]
  dsimp only
  rw [hreply]
  cases hempty : sectionEmpty r with
  | true =>
    obtain ⟨hsame, hcommon, hstopped⟩ := sectionApply_of_empty hempty s.settings.sections[i] s.settings.common
    have hset : s.settings.configured i r = s.settings := by
      rw [Settings.configured, hsame, hcommon]
      simp
    have hbody : s.sectionReply i = s.configReply i r := by rw [State.configReply, hsame, hcommon]; rfl
    rw [hsame, hcommon, hstopped, hset, hbody, if_pos rfl, if_pos ⟨hc, hm⟩]
    rfl
  | false =>
    simp only [sectionApply_sound_iff r hc hm]
    by_cases hgood : sectionInRange r = true ∧ (sectionApply r s.settings.sections[i]).consistent = true
    · obtain ⟨hrange, hagree⟩ := hgood
      rw [hrange, hagree, if_pos (⟨rfl, rfl⟩ : true = true ∧ true = true)]
      rfl
    · rw [if_neg hgood, if_neg nofun, if_pos]
      simpa using not_and_or.1 hgood

theorem movingBlocks_iff (r : SectionConfigRequest) (rec : SectionRecord) :
    (needsStopped r && rec.moving) = true ↔
      (r.mode.isSome ∨ r.range.isSome ∨ r.startIndex.isSome ∨ r.stepDivider.isSome ∨ r.endMode.isSome) ∧
        (rec.output ≠ 0 ∨ rec.running = true) := by
  simp [needsStopped, SectionRecord.moving, or_assoc]

end SectionConfig

/-- Settles O39, by what the owner finds on sound settings. -/
theorem sectionConfigWritesSettings : Obligations.SectionConfigWritesSettings := by
  intro s dt tag fields rest r h hr
  have hexec : exec (.sectionConfig dt) s = _ := asked_decoded sectionConfigOwner h hr
  refine ⟨fun hbad => ?_, ?_⟩
  · rw [hexec, sectionConfigOwner_of_bad_number hbad, putReply_refuse]
  · rintro i c m rec hi rfl rfl rfl hsound
    have hfits := (Settings.sound_iff_fits _).1 hsound
    have howner := sectionConfigOwner_eq (s := takenState dt ⟨0x11#8, tag, fields⟩ rest s) hi (hfits.sections i)
      hfits.common
    rw [hexec, howner]
    refine ⟨fun hbad => ?_, fun hgood blocked hblocked => ?_⟩
    · rw [if_neg, putReply_refuse]
      exact hbad
    · rw [← movingBlocks_iff] at hblocked
      rw [if_pos]
      · refine ⟨fun hb => ?_, fun hb => ?_⟩
        · rw [if_pos, putReply_refuse]
          exact hblocked.1 hb
        · rw [if_neg]
          · exact congrArg _ (putReply_settings ..)
          · exact mt hblocked.2 hb
      · exact hgood

/-! #### Profile write -/

section Profile

theorem readMany_length {α : Type} (field : Reader α) (n : Nat) {bytes rest : List Byte} {xs : List α}
    (h : readMany field n bytes = some (xs, rest)) : xs.length = n := by
  induction n generalizing bytes xs with
  | zero =>
    cases h
    rfl
  | succ n ih =>
    obtain ⟨x, mid, -, htail⟩ := reader_bind_eq_some h
    obtain ⟨ys, mid', hys, hpure⟩ := reader_bind_eq_some htail
    cases hpure
    simp [ih hys]

/-- A present field is what its reader read. -/
theorem readOpt_eq_some {α : Type} {mask k : Nat} {field : Reader α} {bytes rest : List Byte} {x : α}
    (h : readOpt mask k field bytes = some (some x, rest)) : field bytes = some (x, rest) := by
  unfold readOpt at h
  split at h
  · obtain ⟨⟨y, mid⟩, hread, hsome⟩ := Option.bind_eq_some_iff.1 h
    cases hsome
    exact hread
  · cases h

/-- The entries of a Profile write that decodes are sixteen (R153). -/
theorem readProfile_length {fields : List Byte} {r : ProfileRequest} {es : List Nat}
    (h : decodeAll readProfile fields = some r) (hes : r.entries = some es) : es.length = 16 := by
  obtain ⟨table, mid, -, htail⟩ := reader_bind_eq_some (decodeAll_eq_some h)
  obtain ⟨m, mid', -, htail⟩ := reader_bind_eq_some htail
  obtain ⟨entries, mid'', hread, hpure⟩ := reader_bind_eq_some htail
  cases hpure
  subst hes
  exact readMany_length _ _ (readOpt_eq_some hread)

/-- Sixteen entries, as a table. -/
def profileTable (es : List Nat) : Vector Nat 16 := Vector.ofFn fun k => es.getD k 0

theorem profileTable_toList {es : List Nat} (h : es.length = 16) : (profileTable es).toList = es := by
  refine List.ext_getElem (by simp [h]) fun k _ hk => ?_
  simp [profileTable, hk]

variable {r : ProfileRequest} {s : State} {t : Fin 3}

theorem tableNumbered_eq_none {n : Nat} (h : n = 0 ∨ 3 < n) : tableNumbered n = none := by
  unfold tableNumbered
  split
  · rfl
  · exact finOf_of_le (by omega)

theorem tableNumbered_succ (t : Fin 3) : tableNumbered (t.val + 1) = some t := by simp [tableNumbered]

theorem profileOwner_of_bad (h : r.table = 0 ∨ 3 < r.table ∨ ∃ es ∈ r.entries, ∃ e ∈ es, 1000 < e) (s : State) :
    profileOwner r s = refuse .badField s := by
  unfold profileOwner
  split
  · rfl
  · rename_i t ht
    rw [← or_assoc] at h
    obtain ⟨es, hes, e, he, hbad⟩ := h.resolve_left fun hn => by simp [tableNumbered_eq_none hn] at ht
    rw [Option.mem_def.1 hes]
    refine if_pos ?_
    rw [Bool.not_eq_true', Bool.eq_false_iff, Ne, List.all_eq_true]
    exact fun hall => absurd ((inRange_iff _ _ _).1 (hall e he)).2 (by omega)

theorem profileOwner_of_read (ht : r.table = t.val + 1) (hes : r.entries = none) (s : State) :
    profileOwner r s = answerDone s (.profile s.settings.profiles[t]) := by
  unfold profileOwner
  rw [ht, tableNumbered_succ, hes]

theorem profileOwner_of_write {es : List Nat} (ht : r.table = t.val + 1) (hes : r.entries = some es)
    (hgood : ∀ e ∈ es, e ≤ 1000) (s : State) :
    profileOwner r s =
      if tableBusy s t then refuse .state s
      else
        answerDone (s.setSettings { s.settings with profiles := s.settings.profiles.set t (profileTable es) })
          (.profile (profileTable es)) := by
  have hall : es.all (inRange 0 1000) = true :=
    List.all_eq_true.2 fun e he => (inRange_iff _ _ _).2 ⟨Nat.zero_le _, hgood e he⟩
  have hwritten : (profileWritten t es s).settings.profiles[t] = profileTable es := by
    simp [profileWritten, profileTable]
  unfold profileOwner
  rw [ht, tableNumbered_succ, hes]
  dsimp only
  rw [hall, hwritten]
  rfl

/-- The two sections that share a table (R146). -/
theorem tableOf_eq_iff {n : Nat} {a b : Fin 6}
    (h : (n = 1 ∧ t = 0 ∧ a = 0 ∧ b = 4) ∨ (n = 2 ∧ t = 1 ∧ a = 1 ∧ b = 2) ∨ (n = 3 ∧ t = 2 ∧ a = 3 ∧ b = 5)) :
    n = t.val + 1 ∧ ∀ i : Fin 6, tableOf i = t ↔ i ∈ [a, b] := by
  rcases h with ⟨rfl, rfl, rfl, rfl⟩ | ⟨rfl, rfl, rfl, rfl⟩ | ⟨rfl, rfl, rfl, rfl⟩ <;> exact ⟨rfl, by decide⟩

theorem tableBusy_iff {l : List (Fin 6)} (h : ∀ i : Fin 6, tableOf i = t ↔ i ∈ l) (s : State) :
    tableBusy s t = true ↔
      ∃ i ∈ l, s.dsh[i].record.mode = .profile ∧ (s.dsh[i].record.output ≠ 0 ∨ s.dsh[i].record.running = true) := by
  simp [tableBusy, SectionRecord.moving, h, and_assoc]

end Profile

/-- Settles O40, by what the owner finds. -/
theorem profileWriteReplacesTable : Obligations.ProfileWriteReplacesTable := by
  intro s dt tag fields rest r h hr
  have hexec : exec (.profileWrite dt) s = _ := asked_decoded profileOwner h hr
  refine ⟨fun hbad => ?_, fun t a b hshares => ?_⟩
  · rw [hexec, profileOwner_of_bad hbad, putReply_refuse]
  · obtain ⟨ht, hshares⟩ := tableOf_eq_iff hshares
    refine ⟨fun hread => ?_, fun es hes hgood busy hbusy => ?_⟩
    · rw [hexec, profileOwner_of_read ht hread]
      exact congrArg _ (putReply_same ..)
    · rw [← tableBusy_iff hshares] at hbusy
      rw [hexec, profileOwner_of_write ht hes hgood]
      refine ⟨fun hb => ?_, fun hb => ⟨profileTable es, profileTable_toList (readProfile_length hr hes), ?_⟩⟩
      · rw [if_pos, putReply_refuse]
        exact hbusy.1 hb
      · rw [if_neg]
        · exact congrArg _ (putReply_settings ..)
        · exact mt hbusy.2 hb

/-! #### Fault clear -/

section FaultClear

theorem clears_iff (s : State) (selector : Nat) (i : Fin 6) :
    s.clears selector i = true ↔ (selector = i.val ∨ selector = 6) ∧ s.cds.sections[i].state = .fault := by
  simp [State.clears, selects, or_comm]

theorem clearedCoils_getElem (s : State) (selector : Nat) (i : Fin 6) :
    (s.clearedCoils selector)[i] =
      if s.clears selector i then { s.cds.sections[i] with state := .blocked, fault := none } else s.cds.sections[i] := by
  simp [State.clearedCoils]

theorem clearedShapes_getElem (s : State) (selector : Nat) (i : Fin 6) :
    (s.clearedShapes selector)[i] = if s.clears selector i then { s.dsh[i] with latch := true } else s.dsh[i] := by
  simp [State.clearedShapes]

/-- The coil driver after a Fault clear, published when a section left FAULT (R164, R172). -/
def State.clearedCds (s : State) (selector : Nat) : Cds :=
  if ∃ i, s.clears selector i = true then Cds.publish { s.cds with sections := s.clearedCoils selector } s.now else s.cds

theorem faultsCleared_frame (selector : Nat) (s : State) :
    faultsCleared selector s = (s.setCds (s.clearedCds selector)).setDsh (s.clearedShapes selector) := by
  rw [faultsCleared_eq, State.clearedCds]
  split
  · rfl
  · rename_i hnone
    rw [(cleared_of_none selector s hnone).2]
    rfl

/-- A Fault clear moves the sections of the coil driver, and no supply field of its record. -/
theorem clearedCds_eq (s : State) (selector : Nat) :
    (s.clearedCds selector).sections = s.clearedCoils selector ∧ (s.clearedCds selector).supply = s.cds.supply ∧
      (s.clearedCds selector).lockCause = s.cds.lockCause := by
  unfold State.clearedCds
  split
  · exact ⟨rfl, rfl, rfl⟩
  · rename_i hnone
    exact ⟨(cleared_of_none selector s hnone).1.symm, rfl, rfl⟩

/-- The Fault clear reply of the sections cleared (R164). -/
theorem faultReply_cleared (s : State) (selector : Nat) :
    ((s.setCds (s.clearedCds selector)).setDsh (s.clearedShapes selector)).faultReply =
      .faultClear (Vector.ofFn fun i => (s.clearedCoils selector)[i].state) s.cds.supply s.cds.lockCause := by
  obtain ⟨hsections, hsupply, hcause⟩ := clearedCds_eq s selector
  simp only [State.faultReply, State.setDsh_cds, State.setCds_cds, hsections, hsupply, hcause]

/-- An answer that moves the coil driver and the sections and nothing else. -/
theorem putReply_setCds_setDsh (dt : Nat) (kind tag : Byte) (fields : List Byte) (rest : List InFrame) (s : State)
    (c : Cds) (d : Vector DshSection 6) (body : ReplyBody) :
    putReply s.clp.outbound.length { kind := kind, tag := tag, fields := fields }
        (answerDone
          (((takenState dt { kind := kind, tag := tag, fields := fields } rest s).setCds c).setDsh d) body) =
      { s with
        now := s.now + dt
        cds := c
        dsh := d
        clp := s.clp.answered rest kind tag .done body } :=
  congrArg (fun u : State => (u.setCds c).setDsh d) (takenState_putOut dt kind tag fields rest s .done body)

end FaultClear

/-- Settles O42: the selected sections in FAULT are cleared and latched, and a change of state publishes the record. -/
theorem faultClearReleasesSections : Obligations.FaultClearReleasesSections := by
  intro s dt tag selector rest h
  have hexec : exec (.faultClear dt) s = _ := asked_decoded (x := selector.toNat) faultClearOwner h rfl
  rw [hexec]
  refine ⟨fun hbad => ?_, fun hgood => ?_⟩
  · rw [faultClearOwner, if_pos hbad, putReply_refuse]
  · refine ⟨s.clearedCoils selector.toNat, s.clearedShapes selector.toNat,
      Vector.ofFn fun i => (s.clearedCoils selector.toNat)[i].state, (s.tick dt).clearedCds selector.toNat,
      ∃ i, s.clears selector.toNat i = true, ?_, fun hnone => if_neg hnone, fun hsome => if_pos hsome, fun i => ?_, ?_⟩
    · simp only [clears_iff]
    · refine ⟨by simp, fun hselected hfault => ?_, fun hnot => ?_⟩
      · have hclears := (clears_iff s selector.toNat i).2 ⟨hselected, hfault⟩
        exact ⟨(clearedCoils_getElem ..).trans (if_pos hclears), (clearedShapes_getElem ..).trans (if_pos hclears)⟩
      · have hstands := mt (clears_iff s selector.toNat i).1 hnot
        exact ⟨(clearedCoils_getElem ..).trans (if_neg hstands), (clearedShapes_getElem ..).trans (if_neg hstands)⟩
    · rw [faultClearOwner, if_neg (not_lt.2 hgood), faultsCleared_frame, faultReply_cleared]
      exact congrArg _ (putReply_setCds_setDsh ..)

end Sys2Proof.Machine
end

section
/-! ### The numbers of the cab line and the fields of a Drive -/

namespace Sys2Proof.Machine

open Sys2Proof

/-! #### Numbers -/

theorem natOfBytes_concat (bytes : List Byte) (b : Byte) :
    natOfBytes (bytes ++ [b]) = natOfBytes bytes * 256 + b.toNat := by
  simp [natOfBytes]

@[simp] theorem natBytes_length (n x : Nat) : (natBytes n x).length = n := by
  induction n generalizing x with
  | zero => rfl
  | succ n ih => simp [natBytes, ih]

/-- The last byte holds the rest by 256, the others the quotient (R181). -/
theorem natOfBytes_natBytes {n x : Nat} (h : x < 256 ^ n) : natOfBytes (natBytes n x) = x := by
  induction n generalizing x with
  | zero =>
    obtain rfl : x = 0 := by simpa using h
    rfl
  | succ n ih =>
    have hquotient : x / 256 < 256 ^ n := Nat.div_lt_of_lt_mul (by rwa [mul_comm, ← pow_succ])
    rw [natBytes, natOfBytes_concat, ih hquotient, BitVec.toNat_ofNat]
    omega

theorem intOfBytes_intBytes {x : Int} (hlo : -32768 ≤ x) (hhi : x ≤ 32767) : intOfBytes (intBytes 2 x) = x := by
  have hbytes : natOfBytes (intBytes 2 x) = (x % 65536).toNat := natOfBytes_natBytes (by norm_num; omega)
  have hlength : (intBytes 2 x).length = 2 := natBytes_length ..
  simp only [intOfBytes, hbytes, hlength]
  split <;> omega

/-! #### The fields of a Drive -/

/-- Two bytes of a signed number, read. -/
theorem readI16_intBytes {x : Int} (hlo : -32768 ≤ x) (hhi : x ≤ 32767) (rest : List Byte) :
    readI16 (intBytes 2 x ++ rest) = some (x, rest) :=
  congrArg (fun y => some (y, rest)) (intOfBytes_intBytes hlo hhi)

theorem readMany_intBytes {xs : List Int} (h : ∀ x ∈ xs, -32768 ≤ x ∧ x ≤ 32767) (rest : List Byte) :
    readMany readI16 xs.length (xs.flatMap (intBytes 2) ++ rest) = some (xs, rest) := by
  induction xs with
  | nil => rfl
  | cons x xs ih =>
    obtain ⟨hlo, hhi⟩ := h x (List.mem_cons_self ..)
    have htail := ih fun y hy => h y (List.mem_cons_of_mem x hy)
    simp only [List.flatMap_cons, List.append_assoc, List.length_cons, readMany, bind, StateT.bind,
      readI16_intBytes hlo hhi, Option.bind_some, htail]
    rfl

/-- The bytes of a Drive decode to its demands, its enable and its halt (R135). -/
theorem decodeAll_readDrive {xs : List Int} (hlength : xs.length = 6) (h : ∀ x ∈ xs, -32768 ≤ x ∧ x ≤ 32767)
    (enable halt : Byte) :
    decodeAll readDrive (xs.flatMap (intBytes 2) ++ [enable, halt]) =
      some { demands := xs, enable := enable.toNat, halt := halt.toNat } := by
  have hdemands := readMany_intBytes h [enable, halt]
  rw [hlength] at hdemands
  simp only [decodeAll, readDrive, bind, StateT.bind, hdemands, Option.bind_some]
  rfl

theorem readI16_takes {bytes rest : List Byte} {x : Int} (h : readI16 bytes = some (x, rest)) :
    bytes.length = 2 + rest.length := by
  unfold readI16 at h
  split at h
  · cases h
    simp only [List.length_cons]
    omega
  · cases h

theorem readU8_takes {bytes rest : List Byte} {x : Nat} (h : readU8 bytes = some (x, rest)) :
    bytes.length = 1 + rest.length := by
  unfold readU8 at h
  split at h
  · cases h
    simp only [List.length_cons]
    omega
  · cases h

/-- Fields of one shape take that many times its bytes. -/
theorem readMany_takes {α : Type} {field : Reader α} {k : Nat}
    (hfield : ∀ {bytes rest : List Byte} {x : α}, field bytes = some (x, rest) → bytes.length = k + rest.length)
    (n : Nat) {bytes rest : List Byte} {xs : List α} (h : readMany field n bytes = some (xs, rest)) :
    bytes.length = n * k + rest.length := by
  induction n generalizing bytes xs with
  | zero =>
    cases h
    simp
  | succ n ih =>
    obtain ⟨x, mid, hx, htail⟩ := reader_bind_eq_some h
    obtain ⟨ys, mid', hys, hpure⟩ := reader_bind_eq_some htail
    cases hpure
    rw [hfield hx, ih hys]
    ring

/-- A Drive takes fourteen bytes (R135, R181). -/
theorem readDrive_length {bytes : List Byte} {r : DriveRequest} (h : decodeAll readDrive bytes = some r) :
    bytes.length = 14 := by
  obtain ⟨demands, mid, hdemands, htail⟩ := reader_bind_eq_some (decodeAll_eq_some h)
  obtain ⟨enable, mid', henable, htail⟩ := reader_bind_eq_some htail
  obtain ⟨halt, mid'', hhalt, hpure⟩ := reader_bind_eq_some htail
  cases hpure
  rw [readMany_takes readI16_takes 6 hdemands, readU8_takes henable, readU8_takes hhalt]
  rfl

/-- Settles O18: a number by its last byte and its quotient, a Drive by its fields in turn. -/
theorem numbersAndDriveFieldsReadBack : Obligations.NumbersAndDriveFieldsReadBack := by
  refine ⟨fun n x h => ⟨natOfBytes_natBytes h, natBytes_length n x⟩,
    fun x hlo hhi => ⟨intOfBytes_intBytes hlo hhi, natBytes_length ..⟩, fun a b c d e f enable halt h => ?_,
    fun bytes hlength => ?_⟩
  · simpa using decodeAll_readDrive rfl h enable halt
  · exact Option.eq_none_iff_forall_ne_some.2 fun r hr => hlength (readDrive_length hr)

end Sys2Proof.Machine
end

section
/-! ### The two coils of a section, parted by its dead time -/

namespace Sys2Proof.Machine

open Sys2Proof

/-! #### Moves that start no coil -/

/-- A move of a section that starts no coil and takes nothing off its dead-time count. -/
structure CdsSection.StartsNone (c c' : CdsSection) : Prop where
  state : c'.state.drives = true → c'.state = c.state
  dead : c.dead ≤ c'.dead

/-- A move of a section from one coil to the other (R157, R158). -/
def CdsSection.Reverses (c c' : CdsSection) : Prop :=
  (c.state = .driveA ∧ c'.state = .driveB) ∨ (c.state = .driveB ∧ c'.state = .driveA)

section Section

variable {c c' c'' : CdsSection}

theorem CdsSection.StartsNone.refl (c : CdsSection) : c.StartsNone c := ⟨fun _ => rfl, le_rfl⟩

theorem CdsSection.StartsNone.trans (h : c.StartsNone c') (h' : c'.StartsNone c'') : c.StartsNone c'' :=
  ⟨fun hdrives => by
    have hstate := h'.state hdrives
    rw [hstate] at hdrives ⊢
    exact h.state hdrives, h.dead.trans h'.dead⟩

theorem CdsSection.StartsNone.not_reverses (h : c.StartsNone c') : ¬c.Reverses c' := by
  rintro (⟨hbefore, hafter⟩ | ⟨hbefore, hafter⟩) <;>
    · have hstate := h.state ((SectionState.drives_iff _).2 (by simp [hafter]))
      rw [hbefore, hafter] at hstate
      cases hstate

/-- A section that comes to rest or to FAULT starts no coil. -/
theorem CdsSection.StartsNone.of_rest (hstate : c'.state.drives = false) (hdead : c.dead ≤ c'.dead) :
    c.StartsNone c' := ⟨fun hdrives => absurd hdrives (by simp [hstate]), hdead⟩

/-- The dead-time count of a driving section has run out, so a lock only sets it (R158, R165). -/
theorem lockSection_startsNone (cfg : SectionSettings) (hdead : c.state.drives = true → c.dead = 0) :
    c.StartsNone (lockSection cfg c) := by
  refine .of_rest ?_ ?_
  · unfold lockSection
    dsimp only
    split <;> rfl
  · unfold lockSection
    dsimp only
    split
    · rename_i hdrives
      rw [hdead hdrives]
      exact Nat.zero_le _
    · exact le_rfl

theorem wakeSection_startsNone (c : CdsSection) : c.StartsNone (wakeSection c) := by
  unfold wakeSection
  split
  · exact .refl c
  · exact .of_rest rfl le_rfl

theorem activateSection_startsNone (latched : Bool) (c : CdsSection) : c.StartsNone (activateSection latched c) := by
  unfold activateSection
  split
  · exact .refl c
  · refine .of_rest ?_ le_rfl
    dsimp only
    split
    · rfl
    · exact restState_drives latched

theorem CdsSection.Fits.faultSection_startsNone {supply : SupplyState} {idleDue : Option Nat} {o : Int}
    (h : c.Fits supply idleDue o) (hdriven : c.driven = true) (cause : FaultCause) (measured : Option Nat)
    (deadTime : Nat) : c.StartsNone (faultSection cause measured deadTime c) := by
  have hsetpoint := ((CdsSection.driven_iff c).1 hdriven).2
  exact .of_rest rfl ((h.dead (h.setpoint hsetpoint.ne')).trans_le (Nat.zero_le _))

end Section

/-! #### The events that start no coil -/

/-- No section starts a coil from `s` to `t`, and no dead-time count runs down. -/
def State.StartsNoCoil (s t : State) : Prop := ∀ i : Fin 6, s.cds.sections[i].StartsNone t.cds.sections[i]

section Events

variable {s t u : State}

theorem State.StartsNoCoil.of_sections (h : t.cds.sections = s.cds.sections) : s.StartsNoCoil t := fun i => by
  rw [h]
  exact .refl _

theorem State.StartsNoCoil.trans (h : s.StartsNoCoil t) (h' : t.StartsNoCoil u) : s.StartsNoCoil u :=
  fun i => (h i).trans (h' i)

theorem lockSupply_startsNoCoil (cause : LockCause) (h : s.CoilsFit) : s.StartsNoCoil (lockSupply cause s) := by
  intro i
  rw [lockSupply_eq, State.setDsh_cds, State.setCds_cds, locked_section]
  exact lockSection_startsNone _ (h.sections i).dead

theorem wakeSupply_startsNoCoil (s : State) : s.StartsNoCoil (wakeSupply s) := fun i => by
  simpa [wakeSupply] using wakeSection_startsNone s.cds.sections[i]

theorem driveSupply_startsNoCoil (halt : Bool) (h : s.CoilsFit) : s.StartsNoCoil (driveSupply halt s) := by
  rcases driveSupply_cases halt s with ⟨hsame, -⟩ | ⟨-, -, hlock⟩ | ⟨-, -, hwake⟩
  · rw [hsame]
    exact .of_sections rfl
  · rw [hlock]
    exact lockSupply_startsNoCoil _ h
  · rw [hwake]
    exact wakeSupply_startsNoCoil s

theorem supplySettleExpired_startsNoCoil (s : State) : s.StartsNoCoil (supplySettleExpired s) := by
  unfold supplySettleExpired
  split
  · intro i
    simpa using activateSection_startsNone s.dsh[i].latch s.cds.sections[i]
  · exact .of_sections rfl

theorem idleTimerExpired_startsNoCoil (s : State) : s.StartsNoCoil (idleTimerExpired s) := by
  unfold idleTimerExpired
  split
  · intro i
    rw [latch_cds, State.publishCds_cds, Cds.publish_sections, Fin.getElem_fin, Fin.getElem_fin, Vector.getElem_ofFn]
    exact ⟨fun _ => rfl, le_rfl⟩
  · exact .of_sections rfl

theorem State.CoilsFit.trippedCoils_startsNone (h : s.CoilsFit) {v : ValveSection}
    (hdriven : s.cds.sections[v.index].driven = true) (i : Fin 6) :
    s.cds.sections[i].StartsNone (s.trippedCoils v)[i] := by
  by_cases hi : i = v.index
  · rw [hi, trippedCoils_self]
    exact (h.sections v.index).faultSection_startsNone hdriven ..
  · rw [trippedCoils_other hi]
    exact .refl _

/-- A trip puts its section in FAULT, and the lock over it finds no dead time left on a driving section. -/
theorem driverTripped_startsNoCoil (v : ValveSection) (h : s.CoilsFit) : s.StartsNoCoil (driverTripped v s) := by
  cases hdriven : s.cds.sections[v.index].driven with
  | false =>
    rw [driverTripped_of_not_driven v s hdriven]
    exact .of_sections rfl
  | true =>
    have htripped := h.trippedCoils_startsNone hdriven
    by_cases hlocked : s.cds.supply = .locked
    · rw [driverTripped_of_locked v s hdriven hlocked]
      exact htripped
    · intro i
      rw [driverTripped_of_not_locked v s hdriven hlocked, State.setDsh_cds, State.setCds_cds, locked_section]
      refine (htripped i).trans (lockSection_startsNone _ fun hdrives => ?_)
      by_cases hi : i = v.index
      · rw [hi, trippedCoils_self] at hdrives
        cases hdrives
      · rw [trippedCoils_other hi] at hdrives ⊢
        exact (h.sections i).dead hdrives

theorem demandExpired_startsNoCoil (v : ValveSection) (s : State) : s.StartsNoCoil (demandExpired v s) := by
  refine .of_sections ?_
  unfold demandExpired
  dsimp only
  split
  · exact congrArg (fun x : Standing => x.cds.sections) (demandEvent_standing _)
  · rfl

theorem driveOwner_startsNoCoil (r : DriveRequest) (h : s.CoilsFit) : s.StartsNoCoil (driveOwner r s).state := by
  unfold driveOwner
  split
  · exact .of_sections rfl
  · have hheld : (driveHeld r s).CoilsFit := h.setDsh fun i => by simp [driveSection]
    have hstanding := demandEvent_standing (driveHeld r s)
    have hsame : s.StartsNoCoil (demandEvent (driveHeld r s)) :=
      .of_sections (congrArg (fun x : Standing => x.cds.sections) hstanding)
    exact hsame.trans (driveSupply_startsNoCoil _ (hheld.of_driveSide (driveSide_of_standing hstanding)))

theorem releaseOwner_startsNoCoil (u : Unit) (s : State) : s.StartsNoCoil (releaseOwner u s).state := by
  unfold releaseOwner
  split
  · split <;> exact .of_sections rfl
  · exact .of_sections rfl

theorem faultClearOwner_startsNoCoil (selector : Nat) (s : State) :
    s.StartsNoCoil (faultClearOwner selector s).state := by
  unfold faultClearOwner
  split
  · exact .of_sections rfl
  · intro i
    have hsections : (faultsCleared selector s).cds.sections = s.clearedCoils selector := by
      rw [faultsCleared_frame]
      exact (clearedCds_eq s selector).1
    change s.cds.sections[i].StartsNone (faultsCleared selector s).cds.sections[i]
    rw [hsections, clearedCoils_getElem]
    split
    · exact .of_rest rfl le_rfl
    · exact .refl _

end Events

section Commands

variable {dt : Nat} {s t : State} {c : Instr}

theorem onSupply_startsNoCoil {act : State → State} (hfit : ∀ s : State, s.CoilsFit → (act s).CoilsFit)
    (hact : ∀ s : State, s.CoilsFit → s.StartsNoCoil (act s)) (h : s.CoilsFit) (e : onSupply dt s act = .next t) :
    s.StartsNoCoil t :=
  (onSupply_keeps (P := fun x => x.CoilsFit ∧ s.StartsNoCoil x)
    (fun _ _ ⟨hx, hs⟩ => ⟨⟨hx.supply, hx.times, hx.sections⟩, hs⟩)
    (fun x ⟨hx, hs⟩ => ⟨hfit x hx, hs.trans (hact x hx)⟩) ⟨h, .of_sections rfl⟩ e).2

theorem execRequest_startsNoCoil {α : Type} {kind : Byte} {reader : Reader α} {owner : α → State → Answer}
    (hfit : ∀ (s : State) x, s.CoilsFit → (owner x s).state.CoilsFit)
    (howner : ∀ (s : State) x, s.CoilsFit → s.StartsNoCoil (owner x s).state) (h : s.CoilsFit)
    (e : execRequest dt kind reader owner s = .next t) : s.StartsNoCoil t :=
  (execRequest_keeps (P := fun x => x.CoilsFit ∧ s.StartsNoCoil x)
    (fun _ _ ⟨hx, hs⟩ => ⟨⟨hx.supply, hx.times, hx.sections⟩, hs⟩)
    (fun _ _ ⟨hx, hs⟩ => ⟨⟨hx.supply, hx.times, hx.sections⟩, hs⟩)
    (fun x a ⟨hx, hs⟩ => ⟨hfit x a hx, hs.trans (howner x a hx)⟩) ⟨h, .of_sections rfl⟩ e).2

/-- Only a drive period starts a coil, and only it and a restart take time off a dead-time count. -/
theorem exec_startsNoCoil (hrestart : ∀ dt, c ≠ .restart dt) (hperiod : ∀ dt currents, c ≠ .drivePeriod dt currents)
    (h : s.CoilsFit) (e : exec c s = .next t) : s.StartsNoCoil t := by
  cases hc : movesDriveSide c with
  | false =>
    exact .of_sections
      (congrArg (fun x : EvalRecord × LimiterRecord × Vector DshSection 6 × Cds => x.2.2.2.sections)
        (exec_driveSide hc e))
  | true =>
    cases c with
    | drivePeriod dt currents => exact absurd rfl (hperiod dt currents)
    | restart dt => exact absurd rfl (hrestart dt)
    | scan dt raw =>
      exact onSupply_startsNoCoil (fun _ => scanned_coilsFit raw)
        (fun s _ => .of_sections (by rw [scanned_frame])) h e
    | demandExpiry dt v =>
      exact onSupply_startsNoCoil (fun _ => demandExpired_coilsFit v) (fun s _ => demandExpired_startsNoCoil v s) h e
    | driverTrip dt v =>
      exact onSupply_startsNoCoil (fun _ => driverTripped_coilsFit v) (fun _ => driverTripped_startsNoCoil v) h e
    | supplySettleExpiry =>
      exact onSupply_startsNoCoil (fun _ => supplySettleExpired_coilsFit)
        (fun s _ => supplySettleExpired_startsNoCoil s) h e
    | idleTimerExpiry =>
      exact onSupply_startsNoCoil (fun _ => idleTimerExpired_coilsFit) (fun s _ => idleTimerExpired_startsNoCoil s) h e
    | drive => exact execRequest_startsNoCoil driveOwner_coilsFit (fun _ r => driveOwner_startsNoCoil r) h e
    | release =>
      exact execRequest_startsNoCoil releaseOwner_coilsFit (fun s u _ => releaseOwner_startsNoCoil u s) h e
    | faultClear =>
      exact execRequest_startsNoCoil faultClearOwner_coilsFit (fun s n _ => faultClearOwner_startsNoCoil n s) h e
    | _ => cases hc

/-- A restart that takes place blocks every section (R174); any other lets only time pass. -/
theorem restartTaken_not_reverses (s : State) (i : Fin 6) :
    ¬s.cds.sections[i].Reverses (restartTaken s).cds.sections[i] := by
  have hrestarted (asked : Option RestartKind) (u : State) :
      ¬s.cds.sections[i].Reverses (restarted asked u).cds.sections[i] := by
    obtain ⟨cfg, hsection⟩ : ∃ cfg, (restarted asked u).cds.sections[i] = restartCdsSection cfg := by
      rw [restarted, latchIf_cds]
      exact ⟨_, restartCds_getElem _ i⟩
    rw [hsection]
    simp [CdsSection.Reverses, restartCdsSection]
  have hstands : ¬s.cds.sections[i].Reverses s.cds.sections[i] := (CdsSection.StartsNone.refl _).not_reverses
  unfold restartTaken
  split
  · split
    · split
      · exact hrestarted _ _
      · exact hstands
    · exact hstands
  · exact hrestarted _ _

end Commands

/-! #### An output crosses 0 only by standing at it -/

section Output

variable {o t : Int}

/-- The sign of an output with any magnitude lies on the output's side of 0. -/
theorem mul_sign_mul_nonneg (o : Int) {n : Int} (hn : 0 ≤ n) : 0 ≤ o * (o.sign * n) := by
  rw [← mul_assoc, Int.mul_sign_self]
  exact mul_nonneg (Int.natCast_nonneg _) hn

theorem scaleBy_same_side (h : 0 ≤ o * t) (factor : Nat) : 0 ≤ o * scaleBy t factor := by
  have hfactor : (0 : Int) ≤ factor := Int.natCast_nonneg factor
  rcases mul_nonneg_iff.1 h with ⟨ho, ht⟩ | ⟨ho, ht⟩
  · exact mul_nonneg ho (Int.tdiv_nonneg (mul_nonneg ht hfactor) (by decide))
  · have hneg : 0 ≤ Int.tdiv (-(t * factor)) 1000 :=
      Int.tdiv_nonneg (neg_nonneg.2 (mul_nonpos_of_nonpos_of_nonneg ht hfactor)) (by decide)
    rw [Int.neg_tdiv] at hneg
    exact mul_nonneg_of_nonpos_of_nonpos ho (neg_nonneg.1 hneg)

/-- The shaping chain keeps a target on its side of 0 (R141). -/
theorem shape_same_side (h : 0 ≤ o * t) (i : Fin 6) (cfg : SectionSettings) (e : EvalRecord) (factor : Nat)
    (sign : Int) : 0 ≤ o * shape i cfg e factor sign t := by
  have hclass := scaleBy_same_side (scaleBy_same_side h e.slow) (classFactor cfg factor sign)
  unfold shape
  dsimp only
  split
  · simp
  split
  · exact scaleBy_same_side hclass _
  · exact hclass

/-- A ramp stops at 0 before it turns (R143). -/
theorem ramp_same_side (cfg : SectionSettings) (o t t0 : Int) : 0 ≤ o * ramp cfg o t t0 := by
  rw [ramp_eq]
  split_ifs with hrest ho hrise hhard hshrink
  · simp
  · simp [ho]
  · exact mul_sign_mul_nonneg o (by omega)
  · by_cases ht : t = 0
    · simp [ht]
    · have hside : t.sign = o.sign := (sign_eq_or_eq_neg ho ht).resolve_right hhard.1
      have hnonneg := mul_sign_mul_nonneg t (Int.natCast_nonneg o.natAbs)
      rwa [hside, Int.sign_mul_natAbs, mul_comm] at hnonneg
  · exact mul_sign_mul_nonneg o (by omega)
  · exact mul_sign_mul_nonneg o (by omega)

theorem heldOutput_same_side (h : 0 ≤ o * t) (hold : Bool) : 0 ≤ o * heldOutput hold t := by
  unfold heldOutput
  split
  · simp
  · exact h

/-- A profile section runs only toward its demand's side, and else falls to 0 (R147, R149). -/
theorem profileStep_same_side (i : Fin 6) (cfg : SectionSettings) (table : Vector Nat 16) (e : EvalRecord)
    (factor : Nat) (hold : Bool) (d : DshSection) :
    0 ≤ d.output * (profileStep i cfg table e factor hold d).output := by
  cases hruns : profileRuns hold d with
  | true =>
    rw [profileStep_of_runs hruns]
    obtain ⟨-, -, hside, -⟩ := (profileRuns_iff hold d).1 hruns
    refine shape_same_side ?_ ..
    rcases hside with hzero | hside
    · simp [hzero]
    · rw [← hside]
      exact mul_sign_mul_nonneg _ (Int.natCast_nonneg _)
  | false =>
    rw [profileStep_of_stands hruns]
    refine heldOutput_same_side ?_ hold
    rw [profileFall_eq]
    split
    · simp
    · exact mul_sign_mul_nonneg _ (by omega)

end Output

/-- A drive period takes no output from one side of 0 to the other. -/
theorem sectionStep_same_side (s : State) (i : Fin 6) : 0 ≤ s.dsh[i].output * (sectionStep s i).output := by
  cases hmode : s.settings.sections[i].mode with
  | regular =>
    rw [sectionStep_regular hmode]
    exact heldOutput_same_side (ramp_same_side ..) _
  | profile =>
    rw [sectionStep_profile hmode]
    exact profileStep_same_side ..

/-! #### The drive period -/

section Period

variable {s : State} {dt : Nat} {currents : Vector Nat 6} {i : Fin 6}

theorem afterPeriod_same_side (s : State) (dt : Nat) (currents : Vector Nat 6) (i : Fin 6) :
    0 ≤ s.dsh[i].output * (s.afterPeriod dt currents).dsh[i].output := by
  rw [afterPeriod_dsh]
  dsimp only
  split
  · simp
  · exact sectionStep_same_side s i

/-- Without the main supply a drive period lets only time pass. -/
theorem exec_drivePeriod_cases {t : State} (e : exec (.drivePeriod dt currents) s = .next t) :
    t = s.tick dt ∨ t = s.afterPeriod dt currents := by
  cases hmain : s.power.main with
  | false => exact .inl (Host.Outcome.next.inj (e.symm.trans (onSupply_off dt s _ hmain)))
  | true => exact .inr (Host.Outcome.next.inj (e.symm.trans (exec_drivePeriod s dt currents hmain)))

/-- A coil has the sign of its output, before the period and after it. -/
theorem State.CoilsFit.afterPeriod_not_reverses (h : s.CoilsFit) :
    ¬s.cds.sections[i].Reverses (s.afterPeriod dt currents).cds.sections[i] := by
  have hside := afterPeriod_same_side s dt currents i
  have hbefore := h.sections i
  have htick : (s.tick dt).CoilsFit := ⟨h.supply, h.times, h.sections⟩
  have hafter := (drivePeriodTaken_coilsFit currents htick).sections i
  rintro (⟨hA, hB⟩ | ⟨hB, hA⟩)
  · exact absurd (mul_neg_of_pos_of_neg (hbefore.driveA hA) (hafter.driveB hB)) (not_lt.2 hside)
  · exact absurd (mul_neg_of_neg_of_pos (hbefore.driveB hB) (hafter.driveA hA)) (not_lt.2 hside)

/-- The count of a driving section has run out, and any other loses one (R158). -/
theorem State.CoilsFit.dead_le_afterPeriod (h : s.CoilsFit) :
    s.cds.sections[i].dead ≤ (s.afterPeriod dt currents).cds.sections[i].dead + 1 := by
  rw [h.afterPeriod_dead]
  split
  · rename_i hset
    rw [(h.sections i).dead hset.1]
    exact Nat.zero_le _
  · omega

end Period

/-- Settles O14: a drive period leaves every output on its side of 0 and takes one off a count, a restart blocks every
section, and every other command starts no coil and takes nothing off a count. -/
theorem coilsArePartedByDeadTime : Obligations.CoilsArePartedByDeadTime := by
  intro c s t i hsupply hcoils e
  have h : s.CoilsFit := (State.coilsFit_iff s).2 ⟨hsupply, hcoils⟩
  rw [← and_assoc, ← not_or]
  change ¬s.cds.sections[i].Reverses t.cds.sections[i] ∧ _
  by_cases hrestart : ∃ dt, c = .restart dt
  · obtain ⟨dt, rfl⟩ := hrestart
    have ht := Host.Outcome.next.inj e
    refine ⟨?_, fun hnot => absurd rfl (hnot dt), fun hnot => absurd rfl (hnot dt)⟩
    rw [← ht]
    exact restartTaken_not_reverses (s.tick dt) i
  by_cases hperiod : ∃ dt currents, c = .drivePeriod dt currents
  · obtain ⟨dt, currents, rfl⟩ := hperiod
    rcases exec_drivePeriod_cases e with ht | ht
    · rw [ht]
      exact ⟨(CdsSection.StartsNone.refl _).not_reverses, fun _ _ => le_rfl, fun _ => Nat.le_succ _⟩
    · rw [ht]
      exact ⟨h.afterPeriod_not_reverses, fun _ hnot => absurd rfl (hnot dt currents), fun _ => h.dead_le_afterPeriod⟩
  · have hnone := exec_startsNoCoil (not_exists.1 hrestart)
      (fun dt currents hc => hperiod ⟨dt, currents, hc⟩) h e i
    exact ⟨hnone.not_reverses, fun _ _ => hnone.dead, fun _ => hnone.dead.trans (Nat.le_succ _)⟩

end Sys2Proof.Machine
end

section
/-! ### Status, Release and the timers of the supply -/

namespace Sys2Proof.Machine

open Sys2Proof

/-! #### Status -/

/-- A page number above 4 names no page (R185). -/
theorem statusPage_of_le {n : Nat} (h : 5 ≤ n) (s : State) : s.statusPage n = none := by
  obtain ⟨k, rfl⟩ := Nat.exists_eq_add_of_le' h
  rfl

/-- Each of the two section pages shows three sections, from 0 and from 3 (R185). -/
theorem sectionPages_getElem (s : State) {page first : Nat} (h : (page = 3 ∧ first = 0) ∨ (page = 4 ∧ first = 3)) :
    ∃ v : Vector SectionPage 3,
      s.statusPage page = some (.sections v) ∧
        ∀ (k : Fin 3) (i : Fin 6), i.val = first + k.val → v[k] = s.sectionPage i := by
  rcases h with ⟨rfl, rfl⟩ | ⟨rfl, rfl⟩ <;> refine ⟨_, rfl, ?_⟩ <;> rintro k ⟨n, hn⟩ rfl
  · fin_cases k <;> rfl
  · fin_cases k <;> rfl

section Status

variable {s : State} {dt : Nat} {tag page : Byte} {rest : List InFrame}

/-- A page that is there is answered as the request finds it. -/
theorem exec_status_page (h : s.asked 0x01#8 tag [page] rest) {p : StatusPage}
    (hp : (takenState dt ⟨0x01#8, tag, [page]⟩ rest s).statusPage page.toNat = some p) :
    exec (.status dt) s = .next (s.replied dt rest 0x01#8 tag .done (.status p)) := by
  have hexec : exec (.status dt) s = _ := asked_decoded (x := page.toNat) statusOwner h rfl
  rw [hexec, statusOwner, hp]
  exact congrArg _ (putReply_same ..)

theorem exec_status_badField (h : s.asked 0x01#8 tag [page] rest) (hp : 5 ≤ page.toNat) :
    exec (.status dt) s = .next (s.replied dt rest 0x01#8 tag .badField .none) := by
  have hexec : exec (.status dt) s = _ := asked_decoded (x := page.toNat) statusOwner h rfl
  rw [hexec, statusOwner, statusPage_of_le hp]
  exact congrArg _ (putReply_refuse ..)

end Status

/-- Settles O23, a page at a time. -/
theorem statusAnswersItsPages : Obligations.StatusAnswersItsPages := by
  intro s dt tag page rest h
  refine ⟨exec_status_badField h, ?_, ?_, ?_, fun first hfirst => ?_⟩
  · rintro rfl
    exact ⟨_, exec_status_page h rfl, rfl, rfl, rfl, rfl, rfl, rfl, rfl, rfl, rfl, rfl, rfl, rfl, rfl, rfl, rfl, rfl, rfl,
      rfl, rfl, rfl, rfl, rfl, rfl, rfl, rfl, rfl, rfl, rfl, rfl, List.length_append, rfl, rfl⟩
  · rintro rfl
    exact exec_status_page h rfl
  · rintro rfl
    exact exec_status_page h rfl
  · have hnumber : (page.toNat = 3 ∧ first = 0) ∨ (page.toNat = 4 ∧ first = 3) :=
      hfirst.imp (fun ⟨hp, hf⟩ => ⟨congrArg BitVec.toNat hp, hf⟩) fun ⟨hp, hf⟩ => ⟨congrArg BitVec.toNat hp, hf⟩
    obtain ⟨v, hv, hsections⟩ := sectionPages_getElem (takenState dt ⟨0x01#8, tag, [page]⟩ rest s) hnumber
    refine ⟨v, exec_status_page h hv, fun k i hi => ?_⟩
    rw [hsections k i hi]
    exact ⟨rfl, rfl⟩

/-! #### Release -/

/-- The fault records of the sections in FAULT (R166). -/
def Cds.faultRecords (c : Cds) : Vector (Option FaultRecord) 6 :=
  Vector.ofFn fun i => if c.sections[i].state = .fault then c.sections[i].fault else none

theorem anyShorted_iff (c : Cds) :
    anyShorted c = true ↔
      ∃ (i : Fin 6) (f : FaultRecord),
        c.sections[i].state = .fault ∧ c.sections[i].fault = some f ∧ f.cause = .short := by
  simp [anyShorted, CdsSection.shorted, Option.any_eq_true]

/-- The coil driver with its supply released: no timer runs that its record would show (R166, R172). -/
def Cds.released (c : Cds) : Cds :=
  { c with supply := .asleep, lockCause := none, settleLeft := none, idleLeft := none }

theorem released_eq (s : State) : released s = s.setCds s.cds.released := by
  simp [Machine.released, State.publishCds, Cds.publish, Cds.released]

/-- A short keeps the supply LOCKED (R166). -/
theorem releaseOwner_of_short {s : State} (hlocked : s.cds.supply = .locked) (hshort : anyShorted s.cds = true) :
    releaseOwner () s = { state := s, result := .state, body := s.releaseReply } :=
  (if_pos hlocked).trans (if_pos hshort)

theorem releaseOwner_of_no_short {s : State} (hlocked : s.cds.supply = .locked) (hshort : ¬anyShorted s.cds = true) :
    releaseOwner () s = answerDone (released s) (released s).releaseReply :=
  (if_pos hlocked).trans (if_neg hshort)

theorem releaseOwner_of_not_locked {s : State} (hfree : s.cds.supply ≠ .locked) :
    releaseOwner () s = answerDone s s.releaseReply := if_neg hfree

/-- Settles O41, by the supply state and the shorts it finds. -/
theorem releaseUnlocksSupply : Obligations.ReleaseUnlocksSupply := by
  intro s dt tag rest h
  have hexec : exec (.release dt) s = _ := asked_decoded (x := ()) releaseOwner h rfl
  have hshort := anyShorted_iff s.cds
  rw [hexec]
  refine ⟨s.cds.faultRecords, fun i => by simp [Cds.faultRecords], fun hlocked => ⟨fun hsome => ?_, fun hnone => ?_⟩,
    fun hfree => ?_⟩
  · rw [releaseOwner_of_short (s := takenState dt ⟨0x14#8, tag, []⟩ rest s) hlocked (hshort.2 hsome), ← hlocked]
    exact congrArg _ (putReply_same ..)
  · rw [releaseOwner_of_no_short (s := takenState dt ⟨0x14#8, tag, []⟩ rest s) hlocked (mt hshort.1 hnone), released_eq]
    exact congrArg _ (putReply_setCds_setDsh dt 0x14#8 tag [] rest s s.cds.released s.dsh
      (.release .asleep none s.cds.faultRecords))
  · rw [releaseOwner_of_not_locked (s := takenState dt ⟨0x14#8, tag, []⟩ rest s) hfree]
    exact congrArg _ (putReply_same ..)

/-! #### The timers of the supply -/

section Timers

variable {s : State}

theorem supplySettleExpired_of_due {due : Nat} (hwaking : s.cds.supply = .waking) (hsettle : s.cds.settleDue = some due)
    (hdue : due ≤ s.now) :
    supplySettleExpired s =
      s.setCds
        { s.cds with
          sections := Vector.ofFn fun i => activateSection s.dsh[i].latch s.cds.sections[i]
          supply := .active
          settleDue := none
          idleDue := some s.idleStart
          settleLeft := none
          idleLeft := some (s.settings.common.idleTime * 1000) } := by
  have hleft : s.idleStart - s.now = s.settings.common.idleTime * 1000 := Nat.add_sub_cancel_left ..
  rw [supplySettleExpired, if_pos (by simp [hwaking, hsettle, hdue])]
  simp [State.publishCds, Cds.publish, timeLeft, hleft]

theorem idleTimerExpired_of_due {due : Nat} (hactive : s.cds.supply = .active) (hidle : s.cds.idleDue = some due)
    (hdue : due ≤ s.now) :
    idleTimerExpired s =
      latch .activityTimeout
        (s.setCds
          { s.cds with
            sections := Vector.ofFn fun i => { s.cds.sections[i] with setpoint := 0 }
            supply := .asleep
            closed := false
            idleDue := none
            settleLeft := none
            idleLeft := none }) := by
  rw [idleTimerExpired, if_pos (by simp [hactive, hidle, hdue])]
  simp [State.publishCds, Cds.publish]

/-- A timer that does not run, or not yet to its end, is not due. -/
theorem not_isDue {now : Nat} {timer : Option Nat} (h : ∀ due, timer = some due → now < due) :
    isDue now timer = false := by
  cases timer with
  | none => rfl
  | some due => simpa using h due rfl

theorem supplySettleExpired_of_early
    (h : s.cds.supply ≠ .waking ∨ ∀ due, s.cds.settleDue = some due → s.now < due) : supplySettleExpired s = s := by
  refine if_neg ?_
  rcases h with h | h
  · simp [h]
  · simp [not_isDue h]

theorem idleTimerExpired_of_early
    (h : s.cds.supply ≠ .active ∨ ∀ due, s.cds.idleDue = some due → s.now < due) : idleTimerExpired s = s := by
  refine if_neg ?_
  rcases h with h | h
  · simp [h]
  · simp [not_isDue h]

/-- A section at the supply's entry to ACTIVE (R169). -/
theorem activateSection_eq (latched : Bool) (c : CdsSection) :
    activateSection latched c =
      { c with
        state :=
          if c.state = .fault then .fault
          else if 0 < c.dead then .deadtime
          else if latched then .blocked
          else .idle } := by
  by_cases hfault : c.state = .fault
  · rw [if_pos hfault, ← hfault]
    exact if_pos hfault
  · rw [if_neg hfault]
    exact if_neg hfault

end Timers

/-- Settles O38: each timer at its instant under the supply state it runs in, and nothing else. -/
theorem supplyTimersMoveSupply : Obligations.SupplyTimersMoveSupply := by
  intro s dt hmain
  have hsettle : exec (.supplySettleExpiry dt) s = .next (supplySettleExpired (s.tick dt)) :=
    onSupply_main dt s _ hmain
  have hidle : exec (.idleTimerExpiry dt) s = .next (idleTimerExpired (s.tick dt)) := onSupply_main dt s _ hmain
  rw [hsettle, hidle]
  refine ⟨fun due hwaking htimer hdue => ?_, fun hearly => ?_, fun due hactive htimer hdue => ?_, fun hearly => ?_⟩
  · refine ⟨Vector.ofFn fun i => activateSection s.dsh[i].latch s.cds.sections[i], fun i => ?_,
      congrArg _ (supplySettleExpired_of_due (s := s.tick dt) hwaking htimer hdue)⟩
    rw [← activateSection_eq]
    simp
  · exact congrArg _ (supplySettleExpired_of_early (s := s.tick dt) hearly)
  · refine ⟨Vector.ofFn fun i => { s.cds.sections[i] with setpoint := 0 }, fun i => by simp,
      congrArg _ (idleTimerExpired_of_due (s := s.tick dt) hactive htimer hdue)⟩
  · exact congrArg _ (idleTimerExpired_of_early (s := s.tick dt) hearly)

end Sys2Proof.Machine
end

section
/-! ### What a Drive does to the supply -/

namespace Sys2Proof.Machine

open Sys2Proof

/-! #### The wake -/

/-- A section at the supply's entry to WAKING (R168). -/
theorem wakeSection_eq (c : CdsSection) :
    wakeSection c = { c with state := if c.state = .fault then .fault else .blocked } := by
  by_cases hfault : c.state = .fault
  · rw [if_pos hfault, ← hfault]
    exact if_pos hfault
  · rw [if_neg hfault]
    exact if_neg hfault

/-- The coil driver after the supply's entry to WAKING, its record published (R168, R172). -/
def Cds.woken (c : Cds) (now settleTime : Nat) : Cds :=
  { c with
    sections := Vector.ofFn fun i => wakeSection c.sections[i]
    supply := .waking
    closed := true
    settleDue := some (now + settleTime)
    settleLeft := some settleTime
    idleLeft := none }

theorem woken_section (c : Cds) (now settleTime : Nat) (i : Fin 6) :
    (c.woken now settleTime).sections[i] = wakeSection c.sections[i] := by
  simp [Cds.woken]

/-- A wake moves the coil driver and sets every latch (R138, R168). -/
theorem wakeSupply_eq (s : State) :
    wakeSupply s = (s.setCds (s.cds.woken s.now s.settings.common.settleTime)).setDsh (setLatches s.dsh) := by
  simp [wakeSupply, State.publishCds, Cds.publish, timeLeft, Cds.woken]

/-! #### The case a Drive finds -/

section Supply

variable {s : State}

theorem anyHeld_iff (d : Vector DshSection 6) : anyHeld d = true ↔ ∃ i : Fin 6, d[i].held ≠ 0 := by simp [anyHeld]

theorem driveSupply_of_halt (h : s.cds.supply ≠ .locked) : driveSupply true s = lockSupply .halt s := if_neg h

theorem driveSupply_of_halt_locked (h : s.cds.supply = .locked) : driveSupply true s = s := if_pos h

theorem driveSupply_of_held (hasleep : s.cds.supply = .asleep) (hheld : ∃ i : Fin 6, s.dsh[i].held ≠ 0) :
    driveSupply false s = wakeSupply s :=
  (if_neg nofun).trans (if_pos (by simp [hasleep, (anyHeld_iff s.dsh).2 hheld]))

theorem driveSupply_of_not_woken (h : s.cds.supply ≠ .asleep ∨ ∀ i : Fin 6, s.dsh[i].held = 0) :
    driveSupply false s = s := by
  refine (if_neg nofun).trans (if_neg fun hwakes => ?_)
  obtain ⟨hasleep, hheld⟩ : s.cds.supply = .asleep ∧ anyHeld s.dsh = true := by simpa using hwakes
  obtain ⟨i, hi⟩ := (anyHeld_iff s.dsh).1 hheld
  exact h.elim (· hasleep) fun hall => hi (hall i)

/-- The supply's part of a Drive moves no demand. -/
theorem driveSupply_held (halt : Bool) (s : State) (i : Fin 6) :
    (driveSupply halt s).dsh[i].held = s.dsh[i].held := by
  by_cases hsame : (driveSupply halt s).cds.supply = s.cds.supply
  · rw [driveSupply_dsh_of_same halt s hsame]
  · rw [driveSupply_dsh_of_moved halt s hsame]

theorem lockSupply_cds (cause : LockCause) (s : State) :
    (lockSupply cause s).cds = s.cds.locked cause s.settings.sections := by rw [lockSupply_eq]; rfl

theorem lockSupply_dsh_output (cause : LockCause) (s : State) (i : Fin 6) : (lockSupply cause s).dsh[i].output = 0 := by
  rw [lockSupply_eq, State.setDsh_dsh, lockSections_getElem]

/-- An enabled SupplyLocked is a member after a lock (R165, R187). -/
theorem lockSupply_member (cause : LockCause) (h : s.settings.enables.getLsbD 11 = true) :
    (lockSupply cause s).clp.changeSet.getLsbD 11 = true := by
  rw [lockSupply_eq]
  exact latch_member .supplyLocked s h

theorem wakeSupply_cds (s : State) : (wakeSupply s).cds = s.cds.woken s.now s.settings.common.settleTime := by
  rw [wakeSupply_eq]
  rfl

theorem wakeSupply_dsh_output (s : State) (i : Fin 6) : (wakeSupply s).dsh[i].output = s.dsh[i].output := by
  rw [wakeSupply_eq]
  simp [setLatches]

end Supply

/-- A Drive that is taken ends with the supply's part of it, on what its demand event leaves. -/
theorem exec_drive_taken {s : State} {tag : Byte} {fields : List Byte} {rest : List InFrame} {r : DriveRequest}
    (dt : Nat) (h : s.asked 0x10#8 tag fields rest) (hr : decodeAll readDrive fields = some r) (henable : r.enable ≤ 1)
    (hhalt : r.halt ≤ 1) :
    ∃ t u : State,
      exec (.drive dt) s = .next t ∧ u.standing = (s.driven dt tag rest r).standing ∧
        t.cds = (driveSupply (r.halt == 1) u).cds ∧ t.dsh = (driveSupply (r.halt == 1) u).dsh ∧
        t.clp.changeSet = (driveSupply (r.halt == 1) u).clp.changeSet := by
  rw [exec_drive_asked dt h hr, driveOwner_of_good henable hhalt, driveTaken_takenState]
  exact ⟨_, _, rfl, demandEvent_standing _, rfl, rfl, rfl⟩

/-- Settles O27: the supply's part of the Drive finds coil driver, settings and outputs as they stood, and locks, wakes or
leaves the supply. -/
theorem driveLocksOrWakesSupply : Obligations.DriveLocksOrWakesSupply := by
  intro s dt tag fields rest r h hr henable hhalt
  obtain ⟨t, u, hexec, hstanding, hcds, hdsh, hchanges⟩ := exec_drive_taken dt h hr henable hhalt
  have hcoils : u.cds = s.cds := congrArg Standing.cds hstanding
  have hnow : u.now = s.now + dt := congrArg Standing.now hstanding
  have hset : u.settings = s.settings := congrArg Standing.settings hstanding
  have houtput (i : Fin 6) : u.dsh[i].output = s.dsh[i].output := by
    rw [← drivenSections_output dt s r i]
    exact congrArg (fun x : Standing => x.dsh[i].output) hstanding
  have hheld (i : Fin 6) : t.dsh[i].held = u.dsh[i].held := by
    rw [hdsh]
    exact driveSupply_held ..
  refine ⟨t, hexec, fun hone hfree => ?_, fun hone hlocked => ?_, fun hzero hasleep ⟨i, hi⟩ => ?_,
    fun hzero hnone => ?_⟩
  · have hhalts : (r.halt == 1) = true := beq_iff_eq.2 hone
    rw [hhalts, driveSupply_of_halt (hcoils ▸ hfree)] at hcds hdsh hchanges
    rw [lockSupply_cds, hcoils, hset] at hcds
    rw [hcds, hdsh, hchanges]
    refine ⟨rfl, rfl, rfl, rfl, rfl, rfl, rfl, fun henabled => lockSupply_member _ (hset ▸ henabled),
      fun i => ⟨lockSupply_dsh_output .., ?_⟩⟩
    rw [locked_section, lockSection_eq]
  · have hhalts : (r.halt == 1) = true := beq_iff_eq.2 hone
    rw [hcds, hhalts, driveSupply_of_halt_locked (hcoils ▸ hlocked), hcoils]
  · have hruns : (r.halt == 1) = false := by simp [hzero]
    have hsome : u.dsh[i].held ≠ 0 := hheld i ▸ hi
    rw [hruns, driveSupply_of_held (hcoils.symm ▸ hasleep) ⟨i, hsome⟩] at hcds hdsh
    rw [wakeSupply_cds, hcoils, hnow, hset] at hcds
    rw [hcds, hdsh]
    refine ⟨rfl, rfl, rfl, rfl, rfl, rfl, rfl, fun i => ⟨(wakeSupply_dsh_output ..).trans (houtput i), ?_⟩⟩
    rw [woken_section, wakeSection_eq]
  · have hruns : (r.halt == 1) = false := by simp [hzero]
    simp only [hheld] at hnone
    rw [hcds, hruns, driveSupply_of_not_woken (hcoils.symm ▸ hnone), hcoils]

end Sys2Proof.Machine
end

section
/-! ### The faults a drive period finds -/

namespace Sys2Proof.Machine

open Sys2Proof

/-! #### The tests of the period just ended -/

section Tests

variable {c : CdsSection} {supply : SupplyState} {idleDue : Option Nat} {o : Int} {current : Nat}

/-- On a sound section a setpoint stands on the active coil alone, so it says whether the coil is driven. -/
theorem CdsSection.Fits.driven_iff (h : c.Fits supply idleDue o) : c.driven = true ↔ 0 < c.setpoint := by
  rw [CdsSection.driven_iff]
  refine ⟨fun hdriven => hdriven.2, fun hsetpoint => ⟨?_, hsetpoint⟩⟩
  have hdrives := h.setpoint hsetpoint.ne'
  rw [h.active]
  rcases (SectionState.drives_iff _).1 hdrives with hstate | hstate <;> simp [hstate, SectionState.coil]

theorem CdsSection.Fits.shortTest_iff (h : c.Fits supply idleDue o) :
    shortTest c current = true ↔ 0 < c.setpoint ∧ c.setpoint * 13 < current * 10 := by
  rw [← h.driven_iff]
  simp [shortTest]

theorem CdsSection.Fits.openTest_iff (h : c.Fits supply idleDue o) :
    openTest c current = true ↔ 200 ≤ c.setpoint ∧ current * 2 < c.setpoint := by
  have hdriven : 200 ≤ c.setpoint → c.driven = true := fun hlarge => h.driven_iff.2 (by omega)
  simp only [openTest, Bool.and_eq_true, decide_eq_true_eq, and_assoc]
  exact and_iff_right_of_imp fun hopen => hdriven hopen.1

/-- A section above 130% of its setpoint is a short (R161). -/
theorem CdsSection.Fits.judge_eq_short_iff (h : c.Fits supply idleDue o) :
    judge c current = some .short ↔ 0 < c.setpoint ∧ c.setpoint * 13 < current * 10 := by
  rw [← h.shortTest_iff, judge]
  cases shortTest c current with
  | true => simp
  | false => simp

/-- A section below half its setpoint is no short, and is found open at its third open in a row (R160). -/
theorem CdsSection.Fits.judge_eq_open_iff (h : c.Fits supply idleDue o) :
    judge c current = some .openCoil ↔ (200 ≤ c.setpoint ∧ current * 2 < c.setpoint) ∧ 2 ≤ c.opens := by
  have hexclusive : openTest c current = true → shortTest c current = false := by
    rw [h.openTest_iff, ← Bool.not_eq_true, h.shortTest_iff]
    omega
  rw [← h.openTest_iff, judge]
  cases hopen : openTest c current with
  | true => simp [hexclusive hopen, Nat.succ_le_iff]
  | false => simp

end Tests

/-! #### A section judged -/

section JudgeSection

variable (cfg : SectionSettings) (c : CdsSection) (current : Nat)

/-- A fault found: its record, and no open counted (R160, R161, R163). -/
theorem judgeSection_of_found {cause : FaultCause} (h : judge c current = some cause) :
    (judgeSection cfg c current).opens = 0 ∧
      (judgeSection cfg c current).fault =
        some { cause := cause, coil := c.active, setpoint := c.setpoint, measured := some current } := by
  unfold judgeSection
  rw [h]
  exact ⟨rfl, rfl⟩

/-- No fault found: an open counts, anything else clears the count (R160). -/
theorem judgeSection_of_none (h : judge c current = none) :
    (judgeSection cfg c current).opens = (if openTest c current then c.opens + 1 else 0) ∧
      (judgeSection cfg c current).fault = c.fault := by
  unfold judgeSection
  rw [h]
  exact ⟨rfl, rfl⟩

theorem judgeSection_measured : (judgeSection cfg c current).measured = if c.driven then current else 0 := by
  unfold judgeSection
  cases judge c current <;> rfl

end JudgeSection

/-! #### What the period leaves of the judgement -/

section Period

variable (s : State) (dt : Nat) (currents : Vector Nat 6) (i : Fin 6)

/-- A lock and steps 2 to 4 move neither the open count nor the measured current nor the fault record. -/
theorem afterPeriod_judged :
    (s.afterPeriod dt currents).cds.sections[i].opens =
        (judgeSection s.settings.sections[i] s.cds.sections[i] currents[i]).opens ∧
      (s.afterPeriod dt currents).cds.sections[i].measured =
        (judgeSection s.settings.sections[i] s.cds.sections[i] currents[i]).measured ∧
      (s.afterPeriod dt currents).cds.sections[i].fault =
        (judgeSection s.settings.sections[i] s.cds.sections[i] currents[i]).fault := by
  rw [afterPeriod_section]
  unfold State.judgedCoil
  cases s.shortLocks currents <;> exact ⟨rfl, rfl, rfl⟩

theorem afterPeriod_state_eq_fault_iff :
    (s.afterPeriod dt currents).cds.sections[i].state = .fault ↔
      s.cds.sections[i].state = .fault ∨ (s.foundFault currents i).isSome :=
  drivePeriodTaken_state_eq_fault_iff currents (s.tick dt) i

/-- A section in FAULT is stopped (R140, R159). -/
theorem afterPeriod_of_fault (h : (s.afterPeriod dt currents).cds.sections[i].state = .fault) :
    (s.afterPeriod dt currents).cds.sections[i].output = 0 ∧
      (s.afterPeriod dt currents).cds.sections[i].setpoint = 0 := by
  have hsection := afterPeriod_section s dt currents i
  constructor
  · rw [hsection]
    exact afterPeriod_output_of_stop s dt currents i (.inr (.inr h))
  · rw [hsection] at h ⊢
    rw [coilSection_setpoint, h]
    rfl

/-- A section's step moves no latch (R138). -/
theorem sectionStep_latch : (sectionStep s i).latch = s.dsh[i].latch := by
  unfold sectionStep profileStep
  dsimp only
  split
  · rfl
  · split <;> rfl

theorem afterPeriod_latch :
    (s.afterPeriod dt currents).dsh[i].latch = (s.dsh[i].latch || s.shortLocks currents) := by
  rw [afterPeriod_dsh, sectionStep_latch]

/-- The coil driver after the period: the supply as step 1 leaves it, the rest as steps 2 to 4 do, published. -/
theorem afterPeriod_cds :
    (s.afterPeriod dt currents).cds =
      Cds.publish
        { (s.tick dt).judgedSupply currents with
          sections := Vector.ofFn ((s.tick dt).periodCoil currents)
          idleDue := (s.tick dt).periodIdle currents } (s.now + dt) := by
  rw [State.afterPeriod, drivePeriodTaken_eq]
  rfl

theorem shortLocks_iff :
    s.shortLocks currents = true ↔
      (∃ i, s.foundFault currents i = some .short) ∧ s.cds.supply ≠ .locked := by
  simp [State.shortLocks]

variable {s currents}

/-- A fault found, whichever: the section in FAULT with its record, and stopped. -/
theorem afterPeriod_of_found {cause : FaultCause} (h : s.foundFault currents i = some cause) :
    ((s.afterPeriod dt currents).cds.sections[i].state = .fault ∧
        (s.afterPeriod dt currents).cds.sections[i].fault =
          some
            { cause := cause
              coil := s.cds.sections[i].active
              setpoint := s.cds.sections[i].setpoint
              measured := some currents[i] }) ∧
      (s.afterPeriod dt currents).cds.sections[i].opens = 0 ∧
      (s.afterPeriod dt currents).cds.sections[i].output = 0 ∧
      (s.afterPeriod dt currents).cds.sections[i].setpoint = 0 := by
  obtain ⟨hopens, -, hfault⟩ := afterPeriod_judged s dt currents i
  obtain ⟨hcleared, hrecord⟩ := judgeSection_of_found s.settings.sections[i] s.cds.sections[i] currents[i] h
  have hstate := (afterPeriod_state_eq_fault_iff s dt currents i).2 (.inr (Option.isSome_of_eq_some h))
  exact ⟨⟨hstate, hfault.trans hrecord⟩, hopens.trans hcleared, afterPeriod_of_fault s dt currents i hstate⟩

/-- No fault found: FAULT and its record stand, and the open count goes on or clears. -/
theorem afterPeriod_of_none (h : s.foundFault currents i = none) :
    ((s.afterPeriod dt currents).cds.sections[i].state = .fault ↔ s.cds.sections[i].state = .fault) ∧
      (s.afterPeriod dt currents).cds.sections[i].fault = s.cds.sections[i].fault ∧
      (s.afterPeriod dt currents).cds.sections[i].opens =
        if openTest s.cds.sections[i] currents[i] then s.cds.sections[i].opens + 1 else 0 := by
  obtain ⟨hopens, -, hfault⟩ := afterPeriod_judged s dt currents i
  obtain ⟨hcount, hrecord⟩ := judgeSection_of_none s.settings.sections[i] s.cds.sections[i] currents[i] h
  refine ⟨?_, hfault.trans hrecord, hopens.trans hcount⟩
  rw [afterPeriod_state_eq_fault_iff, h]
  simp

/-- A short found under a supply that is not LOCKED locks it, and stops and latches every section (R138, R161, R165). -/
theorem afterPeriod_of_lock (h : s.shortLocks currents = true) :
    (s.afterPeriod dt currents).cds.supply = .locked ∧ (s.afterPeriod dt currents).cds.closed = false ∧
      (s.afterPeriod dt currents).cds.lockCause = some .coilShort ∧
      (s.afterPeriod dt currents).cds.settleDue = none ∧ (s.afterPeriod dt currents).cds.idleDue = none ∧
      ∀ i : Fin 6,
        (s.afterPeriod dt currents).dsh[i].latch = true ∧ (s.afterPeriod dt currents).dsh[i].output = 0 := by
  have hjudged : (s.tick dt).judgedSupply currents = s.cds.locked .coilShort s.settings.sections := if_pos h
  have hidle : (s.tick dt).periodIdle currents = none := by
    rw [periodIdle_eq, hjudged]
    rfl
  have hstop (hlocked : (s.afterPeriod dt currents).cds.supply = .locked) (i : Fin 6) :
      (s.afterPeriod dt currents).dsh[i].output = 0 :=
    afterPeriod_output_of_stop s dt currents i (.inr (.inl (by simp [hlocked])))
  rw [afterPeriod_cds, hjudged] at hstop ⊢
  refine ⟨rfl, rfl, rfl, rfl, hidle, fun i => ⟨?_, hstop rfl i⟩⟩
  rw [afterPeriod_latch, h, Bool.or_true]

/-- Without such a short the supply and its settle timer stand, and every latch. -/
theorem afterPeriod_of_no_lock (h : s.shortLocks currents = false) :
    (s.afterPeriod dt currents).cds.supply = s.cds.supply ∧
      (s.afterPeriod dt currents).cds.closed = s.cds.closed ∧
      (s.afterPeriod dt currents).cds.lockCause = s.cds.lockCause ∧
      (s.afterPeriod dt currents).cds.settleDue = s.cds.settleDue ∧
      ∀ i : Fin 6, (s.afterPeriod dt currents).dsh[i].latch = s.dsh[i].latch := by
  have hjudged : (s.tick dt).judgedSupply currents = s.cds := if_neg (by simp [h])
  rw [afterPeriod_cds, hjudged]
  refine ⟨rfl, rfl, rfl, rfl, fun i => ?_⟩
  rw [afterPeriod_latch, h, Bool.or_false]

end Period

/-- Settles O36: what the section's judgement finds decides its state and record, and a short found locks the supply. -/
theorem drivePeriodFindsCoilFaults : Obligations.DrivePeriodFindsCoilFaults := by
  intro s dt currents hmain hsound hcoils
  have h : s.CoilsFit := (State.coilsFit_iff s).2 ⟨hsound, hcoils⟩
  have hshort (i : Fin 6) : s.foundFault currents i = some .short ↔ _ := (h.sections i).judge_eq_short_iff
  have hopenNow (i : Fin 6) : s.foundFault currents i = some .openCoil ↔ _ := (h.sections i).judge_eq_open_iff
  have hopened (i : Fin 6) := (h.sections i).openTest_iff (current := currents[i])
  refine ⟨s.afterPeriod dt currents, fun i => s.foundFault currents i = some .short,
    fun i => openTest s.cds.sections[i] currents[i] = true, fun i => s.foundFault currents i = some .openCoil,
    exec_drivePeriod s dt currents hmain, fun i => ⟨hshort i, hopened i, ?_, fun hfound => ?_, fun hfound => ?_,
      fun hfound => ?_, fun hnoShort hnoOpen => ?_, ?_⟩, fun hsome hfree => ?_, ?_, fun hnone => ?_⟩
  · exact (hopenNow i).trans (and_congr_left' (hopened i).symm)
  · exact (afterPeriod_of_found dt i hfound).1
  · exact (afterPeriod_of_found dt i hfound).1
  · obtain ⟨cause, hcause⟩ : ∃ cause, s.foundFault currents i = some cause := hfound.elim (⟨_, ·⟩) (⟨_, ·⟩)
    exact (afterPeriod_of_found dt i hcause).2
  · have hnone : s.foundFault currents i = none := by
      cases hfound : s.foundFault currents i with
      | none => rfl
      | some cause => cases cause <;> simp_all
    obtain ⟨hstate, hrecord, hcount⟩ := afterPeriod_of_none dt i hnone
    exact ⟨hstate, hrecord, fun hopen => hcount.trans (if_pos hopen), fun hopen => hcount.trans (if_neg hopen)⟩
  · obtain ⟨-, hmeasured, -⟩ := afterPeriod_judged s dt currents i
    rw [hmeasured, judgeSection_measured]
    by_cases hzero : s.cds.sections[i].setpoint = 0
    · rw [if_pos hzero, if_neg (mt (h.sections i).driven_iff.1 (by omega))]
    · rw [if_neg hzero, if_pos ((h.sections i).driven_iff.2 (by omega))]
  · exact afterPeriod_of_lock dt ((shortLocks_iff s currents).2 ⟨hsome, hfree⟩)
  · rw [h.periodLatches_eq]
    rw [afterPeriod_frame]
  · exact afterPeriod_of_no_lock dt
      (Bool.eq_false_iff.2 fun hlocks => hnone ((shortLocks_iff s currents).1 hlocks).1)

end Sys2Proof.Machine
end

section
/-! ### The reports that an event raises in the port -/

namespace Sys2Proof.Machine

open Sys2Proof

/-! #### Sets of sources -/

theorem ChangeSource.bit_lt (src : ChangeSource) : src.bit < 16 := by cases src <;> decide

theorem ChangeSource.getLsbD_mask (src : ChangeSource) {k : Nat} (hk : k < 16) :
    src.mask.getLsbD k = (k == src.bit) := by
  have hbit := src.bit_lt
  rw [Bool.eq_iff_iff]
  simp [ChangeSource.mask, BitVec.getLsbD_shiftLeft]
  omega

/-- One set lies within another when each of its members is one of the other's. -/
theorem within_iff {a b : SourceSet} :
    a &&& ~~~b = 0#16 ↔ ∀ k, k < 16 → a.getLsbD k = true → b.getLsbD k = true := by
  constructor
  · intro h k hk ha
    have hbit := congrArg (BitVec.getLsbD · k) h
    simpa [hk, ha] using hbit
  · intro h
    refine BitVec.eq_of_getLsbD_eq fun k hk => ?_
    by_cases ha : a.getLsbD k = true
    · simp [h k hk ha]
    · simp [ha]

/-- A set that an enabled source joins stays within the enables (R187). -/
theorem within_join {set enables : SourceSet} {src : ChangeSource} (hset : set &&& ~~~enables = 0#16)
    (hsrc : hasSource enables src = true) : (set ||| src.mask) &&& ~~~enables = 0#16 := by
  refine within_iff.2 fun k hk hmember => ?_
  rw [BitVec.getLsbD_or, src.getLsbD_mask hk, Bool.or_eq_true, beq_iff_eq] at hmember
  rcases hmember with hmember | rfl
  · exact within_iff.1 hset k hk hmember
  · exact hsrc

/-! #### The port after an event of the blocks -/

/-- The port after reports have been raised, and after enabled sources have joined the change set with theirs (R183,
R187). -/
inductive Clp.Raised (enables : SourceSet) (c : Clp) : Clp → Prop
  | refl : Clp.Raised enables c c
  | raise {d : Clp} (r : Report) : Clp.Raised enables c d → Clp.Raised enables c (d.raise r)
  | gain {d : Clp} (src : ChangeSource) :
      hasSource enables src = true → Clp.Raised enables c d → Clp.Raised enables c (d.gain src)

theorem Clp.raise_sound {c : Clp} (r : Report) (h : c.Sound) : (c.raise r).Sound := by
  obtain ⟨hreceiver, hinbound, hfields, houtbound, -, hcounts⟩ := h
  refine ⟨hreceiver, hinbound, hfields, ?_, Nat.le_of_lt_succ (Nat.mod_lt _ (by decide)), hcounts⟩
  rw [Clp.raise_outbound]
  split
  · rw [List.length_append]
    exact Nat.succ_le_of_lt ‹_›
  · exact houtbound

theorem Clp.gain_sound {c : Clp} (src : ChangeSource) (h : c.Sound) : (c.gain src).Sound :=
  Clp.raise_sound (c := { c with changeSet := c.changeSet ||| src.mask }) _ h

/-- What a report leaves at a place past the end of the queue it joins: itself, or nothing. -/
theorem Clp.raise_getElem? {c : Clp} {n : Nat} (r : Report)
    (h : ∀ f, c.outbound[n]? = some f → ∃ number r', f = .report number r') {f : OutFrame}
    (hf : (c.raise r).outbound[n]? = some f) : ∃ number r', f = .report number r' := by
  rw [Clp.raise_outbound] at hf
  split at hf
  · rw [List.getElem?_append] at hf
    split at hf
    · exact h f hf
    · exact ⟨_, _, List.mem_singleton.1 (List.mem_of_getElem? hf)⟩
  · exact h f hf

namespace Clp.Raised

variable {enables : SourceSet} {c d : Clp}

/-- Reports keep the bounds of the port (R183). -/
theorem sound (h : c.Raised enables d) (hc : c.Sound) : d.Sound := by
  induction h with
  | refl => exact hc
  | raise r _ ih => exact Clp.raise_sound r ih
  | gain src _ _ ih => exact Clp.gain_sound src ih

/-- The change set stays within the enables: only enabled sources join it (R187). -/
theorem changeSet_within (h : c.Raised enables d) (hc : c.changeSet &&& ~~~enables = 0#16) :
    d.changeSet &&& ~~~enables = 0#16 := by
  induction h with
  | refl => exact hc
  | raise r _ ih => exact ih
  | gain src hsrc _ ih => exact within_join ih hsrc

/-- Only reports join the outbound queue (R183). -/
theorem outbound (h : c.Raised enables d) {n : Nat} (hn : c.outbound.length ≤ n) {f : OutFrame}
    (hf : d.outbound[n]? = some f) : ∃ number r, f = .report number r := by
  induction h generalizing f with
  | refl => simp [hn] at hf
  | raise r _ ih => exact Clp.raise_getElem? r (fun _ => ih) hf
  | @gain d src _ _ ih =>
    exact Clp.raise_getElem? (c := { d with changeSet := d.changeSet ||| src.mask }) _ (fun _ => ih) hf

end Clp.Raised

/-! #### The state after an event of the blocks -/

/-- Of the port and the enables, an event that leads from `s` to `t` has raised reports alone. -/
def State.Reports (s t : State) : Prop :=
  t.settings.enables = s.settings.enables ∧ s.clp.Raised s.settings.enables t.clp

theorem State.Reports.refl (s : State) : s.Reports s := ⟨rfl, .refl⟩

section Updates

variable {s t : State}

theorem State.Reports.setWlc (h : s.Reports t) (x : Wlc) : s.Reports (t.setWlc x) := h
theorem State.Reports.setWce (h : s.Reports t) (x : Wce) : s.Reports (t.setWce x) := h
theorem State.Reports.setLt (h : s.Reports t) (x : Trip) : s.Reports (t.setLt x) := h
theorem State.Reports.setSsu (h : s.Reports t) (x : Ssu) : s.Reports (t.setSsu x) := h
theorem State.Reports.setEvm (h : s.Reports t) (x : EvalRecord) : s.Reports (t.setEvm x) := h
theorem State.Reports.setMlm (h : s.Reports t) (x : LimiterRecord) : s.Reports (t.setMlm x) := h
theorem State.Reports.setDsh (h : s.Reports t) (x : Vector DshSection 6) : s.Reports (t.setDsh x) := h
theorem State.Reports.setCds (h : s.Reports t) (x : Cds) : s.Reports (t.setCds x) := h
theorem State.Reports.publishCds (h : s.Reports t) (c : Cds) : s.Reports (t.publishCds c) := h
theorem State.Reports.setSsr (h : s.Reports t) (x : Ssr) : s.Reports (t.setSsr x) := h

/-- Settings that keep the enables. -/
theorem State.Reports.setSettings {x : Settings} (h : s.Reports t) (hx : x.enables = t.settings.enables) :
    s.Reports (t.setSettings x) := ⟨hx.trans h.1, h.2⟩

theorem State.Reports.ite {p : Prop} [Decidable p] {a b : State} (ha : s.Reports a) (hb : s.Reports b) :
    s.Reports (if p then a else b) := by
  split
  · exact ha
  · exact hb

theorem raiseReport_reports (r : Report) (h : s.Reports t) : s.Reports (raiseReport r t) := ⟨h.1, h.2.raise r⟩

theorem latch_reports (src : ChangeSource) (h : s.Reports t) : s.Reports (latch src t) := by
  obtain ⟨henables, hclp⟩ := h
  unfold latch
  split
  · rename_i hnew
    rw [henables, Bool.and_eq_true] at hnew
    exact ⟨henables, hclp.gain src hnew.1⟩
  · exact ⟨henables, hclp⟩

theorem latchIf_reports (b : Bool) (src : ChangeSource) (h : s.Reports t) : s.Reports (latchIf b src t) :=
  .ite (latch_reports src h) h

end Updates

/-! #### The load tally and the capture engine -/

section Engine

variable {s t : State} (h : s.Reports t)

include h

theorem payloadTest_reports (before : PayloadState) : s.Reports (payloadTest before t) :=
  latchIf_reports _ _ (latchIf_reports _ _ h)

theorem fileLift_reports (d : LiftDirection) (a : Fin 16) (mass : Option Nat) (flags : LiftFlags) :
    s.Reports (fileLift d a mass flags t).1 := by
  unfold fileLift
  split
  · exact payloadTest_reports (latchIf_reports _ _ (h.setLt _)) _
  · exact h

theorem endTare_reports (st : TareState) : s.Reports (endTare st t) := latch_reports _ (h.setWlc _)

theorem failTare_reports (reason : TareReason) : s.Reports (failTare reason t) := .ite (endTare_reports h _) h

theorem endCapture_reports (outcome : CaptureOutcome) (below : Bool) : s.Reports (endCapture outcome below t) :=
  raiseReport_reports _ (h.setWce _)

theorem endUnweighed_reports (reason : EndReason) : s.Reports (endUnweighed reason t) := endCapture_reports h _ _

theorem engineLinkLeft_reports : s.Reports (engineLinkLeft t) := .ite (endUnweighed_reports h _) h

theorem evaluateWindow_reports : s.Reports (evaluateWindow t) :=
  .ite (endCapture_reports h _ _) (.ite (h.setWce _) (endUnweighed_reports h _))

theorem acceptSample_reports (poll : Nat) (force : Int) : s.Reports (acceptSample poll force t) :=
  .ite (evaluateWindow_reports (h.setWce _)) (h.setWce _)

theorem rejectSample_reports : s.Reports (rejectSample t) := .ite (endUnweighed_reports (h.setWce _) _) (h.setWce _)

theorem engineSample_reports (x : Sample) : s.Reports (engineSample x t) := by
  refine .ite ?_ h
  split
  · exact acceptSample_reports h _ _
  · exact rejectSample_reports h

theorem triggerArmed_reports : s.Reports (triggerArmed t) := .ite (.ite ((h.setWce _).setWce _) (h.setWce _)) h

theorem liftConditions_reports : s.Reports (liftConditions t) := by
  unfold liftConditions
  split
  · exact triggerArmed_reports h
  · exact .ite (h.setWce _) h
  · exact .ite h (h.setWce _)
  all_goals exact h

theorem closureEvent_reports : s.Reports (closureEvent t) := .ite ((failTare_reports h _).setWce _) h

theorem closureTest_reports : s.Reports (closureTest t) := by
  unfold closureTest
  split <;> split
  · exact h
  · exact h.setWce _
  · exact h
  · exact .ite (closureEvent_reports (h.setWce _)) (h.setWce _)

theorem closeGrip_reports : s.Reports (closeGrip t) := by
  have hhand (origin drop : BunkMembership) : s.Reports (handOver origin drop t).1 := by
    unfold handOver
    split
    · exact fileLift_reports h _ _ _ _
    · exact h
  exact raiseReport_reports _ ((hhand _ _).setWce _)

theorem releaseEvent_reports : s.Reports (releaseEvent t) := by
  unfold releaseEvent
  split
  · exact h
  · exact closeGrip_reports h
  · exact closeGrip_reports h
  · exact closeGrip_reports h
  all_goals exact closeGrip_reports (endUnweighed_reports h _)

theorem releaseTest_reports : s.Reports (releaseTest t) := .ite (releaseEvent_reports (h.setWce _)) (h.setWce _)

theorem demandEvent_reports : s.Reports (demandEvent t) :=
  liftConditions_reports (releaseTest_reports (closureTest_reports h))

theorem suspendExpired_reports : s.Reports (suspendExpired t) := .ite (endUnweighed_reports h _) h

end Engine

/-! #### The demand shaper, the coil driver and the scan -/

section Drive

variable {s t : State} (h : s.Reports t)

include h

theorem demandExpired_reports (v : ValveSection) : s.Reports (demandExpired v t) :=
  .ite (demandEvent_reports (h.setDsh _)) h

theorem lockUnlessLocked_reports (cause : LockCause) : s.Reports (lockUnlessLocked cause t) :=
  .ite h (latch_reports _ ((h.publishCds _).setDsh _))

theorem supplySettleExpired_reports : s.Reports (supplySettleExpired t) := .ite (h.publishCds _) h

theorem idleTimerExpired_reports : s.Reports (idleTimerExpired t) := .ite (latch_reports _ (h.publishCds _)) h

theorem judgeAll_reports (currents : Vector Nat 6) : s.Reports (judgeAll currents t) :=
  have hfaults := latchIf_reports _ _ ((h.setCds _).setDsh _)
  .ite (lockUnlessLocked_reports hfaults _) hfaults

theorem drivePeriodTaken_reports (currents : Vector Nat 6) : s.Reports (drivePeriodTaken currents t) :=
  ((judgeAll_reports (h.setDsh _) currents).publishCds _).setDsh _

theorem driverTripped_reports (v : ValveSection) : s.Reports (driverTripped v t) :=
  .ite (lockUnlessLocked_reports (latch_reports _ ((h.publishCds _).setDsh _)) _) h

theorem scanned_reports (raw : Vector Nat 9) : s.Reports (scanned raw t) := by
  have hsensors : s.Reports (scanSensors raw t) := (latchIf_reports _ _ (h.setSsu _)).setSsu _
  have hzones : s.Reports (scanZones (scanSensors raw t)) := latchIf_reports _ _ (hsensors.setEvm _)
  exact latchIf_reports _ _ (latchIf_reports _ _ (hzones.setMlm _))

end Drive

/-! #### The weigh link -/

section Link

variable {s t : State} (h : s.Reports t)

include h

theorem linkLeft_reports : s.Reports (linkLeft t) := engineLinkLeft_reports (failTare_reports h _)

theorem enterFailed_reports (cause : LinkCause) : s.Reports (enterFailed cause t) :=
  linkLeft_reports (latch_reports _ (h.setWlc _))

theorem lineChanged_reports (level : Bool) : s.Reports (lineChanged level t) := .ite h (h.setWlc _)

theorem debounceExpired_reports : s.Reports (debounceExpired t) := by
  have habsent : s.Reports (becameAbsent t) := linkLeft_reports ((latch_reports _ (h.setWlc _)).setWlc _)
  have hattached := latch_reports .linkAttached (h.setWlc { t.wlc with detect := true, debounceDue := none })
  have hpresent : s.Reports (becamePresent t) := .ite (hattached.setWlc _) hattached
  exact .ite (.ite habsent hpresent) h

theorem powerOffTimeExpired_reports : s.Reports (powerOffTimeExpired t) := by
  unfold powerOffTimeExpired
  split
  · exact .ite (h.setWlc _) h
  · exact h

theorem enterIdentifying_reports (before : List LinkSignal) : s.Reports (enterIdentifying before t) := h.setWlc _

theorem linkSettleExpired_reports : s.Reports (linkSettleExpired t) := by
  unfold linkSettleExpired
  split
  · exact .ite (enterIdentifying_reports h _) h
  · exact h

theorem compareSerial_reports (serial : Nat) : s.Reports (compareSerial serial t) :=
  .ite (latch_reports _ (h.setSettings rfl)) h

theorem identityValid_reports (head : HeadIdentity) : s.Reports (identityValid head t) :=
  triggerArmed_reports (((compareSerial_reports (h.setWlc _) _).setWlc _).setWlc _)

theorem identityFailed_reports (began : Nat) : s.Reports (identityFailed began t) :=
  .ite (enterFailed_reports (h.setWlc _) _) (h.setWlc _)

theorem identityReadEnded_reports (answer : Option IdentityAnswer) : s.Reports (identityReadEnded answer t) := by
  unfold identityReadEnded
  split
  · split
    · exact .ite (identityValid_reports h _) (identityFailed_reports h _)
    · exact .ite (identityFailed_reports h _) h
  · exact h

theorem identityRetried_reports : s.Reports (identityRetried t) := by
  unfold identityRetried
  split
  · exact .ite (h.setWlc _) h
  · exact h

theorem pollMade_reports : s.Reports (pollMade t) := by
  unfold pollMade
  split
  · exact .ite (h.setWlc _) h
  · exact h

theorem finishTare_reports (head : HeadIdentity) : s.Reports (finishTare head t) :=
  .ite (failTare_reports h _) (endTare_reports (h.setSettings (by rfl)) _)

theorem tareSample_reports (head : HeadIdentity) (o : PollOutcome) : s.Reports (tareSample head o t) := by
  refine .ite ?_ h
  split
  · exact .ite (finishTare_reports (h.setWlc _) _) (h.setWlc _)
  · exact .ite (failTare_reports (h.setWlc _) _) (h.setWlc _)

theorem recoveryDecision_reports : s.Reports (recoveryDecision t) :=
  .ite (linkLeft_reports (h.setWlc _)) (enterFailed_reports h _)

theorem pollCompleted_reports (head : HeadIdentity) (number began : Nat) (o : PollOutcome) :
    s.Reports (pollCompleted head number began o t) := by
  have htaken : s.Reports (sampleTaken head number began o t) :=
    tareSample_reports (engineSample_reports (h.setWlc _) _) _ _
  rw [pollCompleted_eq]
  exact .ite (recoveryDecision_reports htaken) htaken

theorem pollEnded_reports (answer : Option SampleAnswer) : s.Reports (pollEnded answer t) := by
  unfold pollEnded
  split
  · split
    · exact .ite (pollCompleted_reports h _ _ _ _) (pollCompleted_reports h _ _ _ _)
    · exact .ite (pollCompleted_reports h _ _ _ _) h
  · exact h

theorem sendPulse_reports (k : Nat) : s.Reports (sendPulse k t) := h.setWlc _

theorem linesRead_reports (clock data : Bool) : s.Reports (linesRead clock data t) := by
  unfold linesRead
  split
  · exact .ite (.ite (enterFailed_reports h _) (.ite (enterIdentifying_reports h _) (sendPulse_reports h _))) h
  · exact h

theorem pulseEnded_reports (data : Bool) : s.Reports (pulseEnded data t) := by
  unfold pulseEnded
  split
  · exact .ite (.ite (enterIdentifying_reports h _) (.ite (enterFailed_reports h _) (sendPulse_reports h _))) h
  · exact h

end Link

/-! #### The store and the restart -/

theorem storeCompleted_reports {s t : State} (h : s.Reports t) (checkMatches : Bool) :
    s.Reports (storeCompleted checkMatches t) := by
  unfold storeCompleted
  split
  · exact .ite (.ite (h.setSsr _) (h.setSsr _)) h
  · exact h

/-- A restart sets the port to its restart values before it reports; one that is not due has no effect (R191, R198). -/
theorem restartTaken_reports (s : State) :
    restartTaken s = s ∨ ∃ u : State, (∃ line, u.clp = restartClp line) ∧ u.Reports (restartTaken s) := by
  have hset (asked : Option RestartKind) (s : State) :
      ∃ u : State, (∃ line, u.clp = restartClp line) ∧ u.Reports (restarted asked s) :=
    ⟨restartBlocks _ _ s, ⟨s.clp.line, rfl⟩, latchIf_reports _ _ (.refl _)⟩
  unfold restartTaken
  split
  · split
    · split
      · exact .inr (hset _ _)
      · exact .inl rfl
    · exact .inl rfl
  · exact .inr (hset _ _)

end Sys2Proof.Machine
end

section
/-! ### The answer of a request's owner: what it leaves of the port, and what it changes when it refuses -/

namespace Sys2Proof.Machine

open Sys2Proof

/-! #### What every step keeps of the port -/

/-- The bounds of the port, and the change set within the enables: kept from `s` to `t`. -/
structure State.KeepsPort (s t : State) : Prop where
  sound : s.clp.Sound → t.clp.Sound
  changes : s.ChangesSound → t.ChangesSound

section KeepsPort

variable {s t : State}

theorem State.Reports.keepsPort (h : s.Reports t) : s.KeepsPort t := by
  obtain ⟨henables, hclp⟩ := h
  refine ⟨hclp.sound, fun hs => ?_⟩
  rw [State.ChangesSound, henables]
  exact hclp.changeSet_within hs

/-- A change set replaced by one within the enables. -/
theorem State.KeepsPort.putChanges {set : SourceSet} (hclp : t.clp = s.clp)
    (hset : s.ChangesSound → set &&& ~~~t.settings.enables = 0#16) : s.KeepsPort (t.putChanges set) := by
  refine ⟨fun h => ?_, hset⟩
  rw [← hclp] at h
  exact h

end KeepsPort

/-! #### Answers -/

/-- An answer to a request that was taken in `s`: it keeps the port, and one that refuses, with a code from 2 up,
changes nothing but the validity that the engine has read (9.5, R73, log entry 10). -/
structure Answer.Fits (a : Answer) (s : State) : Prop where
  keeps : s.KeepsPort a.state
  refused : a.result ≠ .done → a.result ≠ .accepted →
    a.state = s.setWce { s.wce with validityRead := a.state.wce.validityRead }

namespace Answer.Fits

variable {s t : State}

theorem ite {p : Prop} [Decidable p] {a b : Answer} (ha : a.Fits s) (hb : b.Fits s) :
    (if p then a else b).Fits s := by
  split
  · exact ha
  · exact hb

/-- An answer that leaves the state as it is, whatever its code. -/
theorem same (code : ResultCode) (body : ReplyBody) : Answer.Fits { state := s, result := code, body := body } s :=
  ⟨(State.Reports.refl s).keepsPort, fun _ _ => rfl⟩

theorem refuse (code : ResultCode) : (refuse code s).Fits s := same code .none

theorem doneKeeping (body : ReplyBody) (h : s.KeepsPort t) : (answerDone t body).Fits s :=
  ⟨h, fun hdone => absurd rfl hdone⟩

theorem done (body : ReplyBody) (h : s.Reports t) : (answerDone t body).Fits s := doneKeeping body h.keepsPort

theorem snapshot (h : s.Reports t) : (withSnapshot .done t).Fits s := done _ h

theorem accepted (body : ReplyBody) (h : s.Reports t) :
    Answer.Fits { state := t, result := .accepted, body := body } s :=
  ⟨h.keepsPort, fun _ haccepted => absurd rfl haccepted⟩

end Answer.Fits

/-! #### The owners -/

section Owners

variable (s : State)

theorem statusOwner_fits (page : Nat) : (statusOwner page s).Fits s := by
  unfold statusOwner
  split
  · exact .done _ (.refl s)
  · exact .refuse _

theorem readChangesOwner_fits (u : Unit) : (readChangesOwner u s).Fits s := by
  unfold readChangesOwner
  split
  · exact .doneKeeping _ (.putChanges rfl fun _ => BitVec.zero_and)
  · exact .done _ (.refl s)

/-- The members left are members still (R189). -/
theorem clearChangesOwner_fits (sources : SourceSet) : (clearChangesOwner sources s).Fits s := by
  refine .doneKeeping _ (.putChanges rfl fun h => within_iff.2 fun k hk hleft => within_iff.1 h k hk ?_)
  rw [BitVec.getLsbD_and, Bool.and_eq_true] at hleft
  exact hleft.1

/-- A source that is turned off leaves the set (R187). -/
theorem changeConfigOwner_fits (r : ChangeConfigRequest) : (changeConfigOwner r s).Fits s := by
  refine .doneKeeping _ (.putChanges rfl fun h => within_iff.2 fun k hk hleft => ?_)
  simp only [membersLeft, BitVec.getLsbD_and, BitVec.getLsbD_not, hk, decide_true, Bool.true_and, Bool.and_eq_true,
    Bool.not_and, Bool.not_not, Bool.or_eq_true, Bool.not_eq_true'] at hleft
  obtain ⟨hmember, hoff | hon⟩ := hleft
  · exact absurd (within_iff.1 h k hk hmember) (by simp [hoff])
  · exact hon

theorem driveOwner_fits (r : DriveRequest) : (driveOwner r s).Fits s := by
  have hevent : s.Reports (demandEvent (driveHeld r s)) := demandEvent_reports ((State.Reports.refl s).setDsh _)
  have htaken : s.Reports (driveTaken r s) :=
    .ite (lockUnlessLocked_reports hevent _) (.ite ((hevent.publishCds _).setDsh _) hevent)
  exact .ite (.same _ _) (.done _ htaken)

theorem sectionConfigOwner_fits (r : SectionConfigRequest) : (sectionConfigOwner r s).Fits s := by
  unfold sectionConfigOwner
  split
  · exact .refuse _
  · exact .ite (.done _ (.refl s))
      (.ite (.refuse _) (.ite (.refuse _) (.done _ ((State.Reports.refl s).setSettings rfl))))

theorem profileOwner_fits (r : ProfileRequest) : (profileOwner r s).Fits s := by
  unfold profileOwner
  split
  · exact .refuse _
  · split
    · exact .done _ (.refl s)
    · exact .ite (.refuse _) (.ite (.refuse _) (.done _ ((State.Reports.refl s).setSettings rfl)))

theorem releaseOwner_fits (u : Unit) : (releaseOwner u s).Fits s :=
  .ite (.ite (.same _ _) (.done _ ((State.Reports.refl s).publishCds _))) (.done _ (.refl s))

theorem faultClearOwner_fits (selector : Nat) : (faultClearOwner selector s).Fits s := by
  have hcleared : s.Reports (faultsCleared selector s) :=
    (State.Reports.ite ((State.Reports.refl s).publishCds _) ((State.Reports.refl s).setCds _)).setDsh _
  exact .ite (.refuse _) (.done _ hcleared)

/-- A refused Arm has read the calibration record (log entry 10). -/
theorem armOwner_fits (u : Unit) : (armOwner u s).Fits s := by
  unfold armOwner
  split
  · exact .snapshot ((State.Reports.refl s).setWce _)
  · exact .ite (.snapshot (triggerArmed_reports (((State.Reports.refl s).setWce _).setWce _)))
      ⟨((State.Reports.refl s).setWce _).keepsPort, fun _ _ => rfl⟩
  · exact .snapshot (.refl s)
  all_goals exact .same _ _

theorem disarmOwner_fits (u : Unit) : (disarmOwner u s).Fits s := by
  unfold disarmOwner
  split
  · exact .snapshot ((State.Reports.refl s).setWce _)
  · exact .snapshot ((State.Reports.refl s).setWce _)
  · exact .snapshot (endUnweighed_reports (.refl s) _)
  · exact .snapshot (endUnweighed_reports (.refl s) _)
  all_goals exact .snapshot (.refl s)

theorem captureOwner_fits (r : CaptureRequest) : (captureOwner r s).Fits s :=
  .ite (.refuse _) (.ite (.refuse _) (.done _ ((State.Reports.refl s).setSettings (by rfl))))

theorem linkStatusOwner_fits (u : Unit) : (linkStatusOwner u s).Fits s := .done _ (.refl s)

theorem linkResetOwner_fits (u : Unit) : (linkResetOwner u s).Fits s :=
  .ite (.refuse _) (.accepted _ (linkLeft_reports ((State.Reports.refl s).setWlc _)))

theorem calibrateOwner_fits (r : CalibrateRequest) : (calibrateOwner r s).Fits s :=
  .ite (.refuse _) (.ite (.refuse _) (.done _ ((State.Reports.refl s).setSettings (by rfl))))

theorem tareOwner_fits (u : Unit) : (tareOwner u s).Fits s :=
  .ite (.refuse _) (.ite (.refuse _) (.ite (.refuse _) (.accepted _ ((State.Reports.refl s).setWlc _))))

theorem storeOwner_fits (u : Unit) : (storeOwner u s).Fits s := by
  unfold storeOwner
  split
  · exact .same _ _
  · exact .same _ _
  all_goals exact .accepted _ ((State.Reports.refl s).setSsr _)

theorem restartOwner_fits (kind : RestartKind) : (restartOwner kind s).Fits s := .doneKeeping _ ⟨id, id⟩

theorem zoneWriteOwner_fits (r : ZoneWriteRequest) : (zoneWriteOwner r s).Fits s := by
  unfold zoneWriteOwner
  split
  · exact .refuse _
  · exact .ite (.refuse _) (.ite (.refuse _) (.done _ ((State.Reports.refl s).setSettings rfl)))

theorem zoneEnableOwner_fits (r : ZoneEnableRequest) : (zoneEnableOwner r s).Fits s := by
  unfold zoneEnableOwner
  split
  · exact .refuse _
  · exact .ite (.refuse _) (.done _ ((State.Reports.refl s).setSettings rfl))

theorem zoneReadOwner_fits (n : Nat) : (zoneReadOwner n s).Fits s := by
  unfold zoneReadOwner
  split
  · exact .refuse _
  · exact .done _ (.refl s)

theorem limiterOwner_fits (r : LimiterRequest) : (limiterOwner r s).Fits s :=
  .ite (.refuse _) (.ite (.refuse _) (.done _ ((State.Reports.refl s).setSettings (by rfl))))

theorem ratedOwner_fits (r : List (Option Nat)) : (ratedOwner r s).Fits s :=
  .ite (.refuse _) (.done _ ((State.Reports.refl s).setSettings (by rfl)))

theorem channelOwner_fits (r : ChannelRequest) : (channelOwner r s).Fits s := by
  unfold channelOwner
  split
  · exact .refuse _
  · split
    · exact .done _ (.refl s)
    · exact .ite (.done _ ((State.Reports.refl s).setSettings rfl)) (.refuse _)

theorem geometryOwner_fits (r : GeometryRequest) : (geometryOwner r s).Fits s :=
  .ite (.refuse _) (.done _ ((State.Reports.refl s).setSettings (by rfl)))

theorem assortmentOwner_fits (r : Option Nat) : (assortmentOwner r s).Fits s := by
  unfold assortmentOwner
  split
  · exact .done _ (.refl s)
  · split
    · exact .refuse _
    · exact .done _ ((State.Reports.refl s).setLt _)

theorem readLiftsOwner_fits (r : ReadLiftsRequest) : (readLiftsOwner r s).Fits s :=
  .ite (.refuse _) (.done _ (.refl s))

theorem readTotalsOwner_fits (r : ReadTotalsRequest) : (readTotalsOwner r s).Fits s := by
  refine .ite (.refuse _) ?_
  split
  · exact .done _ (.refl s)
  · split
    · exact .refuse _
    · exact .done _ (.refl s)

theorem undoLastOwner_fits (u : Unit) : (undoLastOwner u s).Fits s := by
  unfold undoLastOwner
  split
  · exact .refuse _
  · exact .ite (.refuse _) (.done _ (payloadTest_reports ((State.Reports.refl s).setLt _) _))

theorem correctOwner_fits (r : CorrectRequest) : (correctOwner r s).Fits s := by
  refine .ite (.refuse _) ?_
  split
  · exact .refuse _
  · exact .ite (.refuse _) (.ite (.refuse _) (.done _ (payloadTest_reports ((State.Reports.refl s).setLt _) _)))

theorem reassignOwner_fits (r : ReassignRequest) : (reassignOwner r s).Fits s := by
  unfold reassignOwner
  split
  · split
    · exact .refuse _
    · exact .ite (.done _ (.refl s)) (.ite (.refuse _) (.done _ ((State.Reports.refl s).setLt _)))
  · exact .refuse _

theorem manualLiftOwner_fits (r : ManualRequest) : (manualLiftOwner r s).Fits s := by
  unfold manualLiftOwner
  split
  · rename_i a _ _
    have hfiled := fileLift_reports (.refl s) r.direction a r.mass manualFlags
    split
    · rename_i t ans e
      exact .done _ (by simpa only [e] using hfiled)
    · exact .refuse _
  · exact .refuse _

theorem tripCloseOwner_fits (u : Unit) : (tripCloseOwner u s).Fits s := .done _ ((State.Reports.refl s).setLt _)

theorem payloadLimitOwner_fits (r : Option Nat) : (payloadLimitOwner r s).Fits s := by
  unfold payloadLimitOwner
  split
  · exact .done _ (.refl s)
  · exact .ite (.refuse _) (.done _ (payloadTest_reports ((State.Reports.refl s).setSettings (by rfl)) _))

end Owners

end Sys2Proof.Machine
end

section
/-! ### What a command can do to the port, and what every step keeps of it -/

namespace Sys2Proof.Machine

open Sys2Proof

/-! #### What a command can do -/

/-- What a command makes of `s`, as the port sees it: the blocks report, a byte comes, the gap ends, a frame goes, the
part restarts, or a request is answered. -/
inductive State.PortMove (s : State) : State → Prop
  | reports {t : State} : s.Reports t → s.PortMove t
  | byte (dt : Nat) (b : Byte) (framingError : Bool) : s.PortMove (byteTaken b framingError (s.tick dt))
  | gap (dt : Nat) : s.PortMove (gapExpired (s.tick dt))
  | sent (dt : Nat) : s.PortMove (frameSent (s.tick dt))
  | restart {t : State} (u : State) (line : List Byte) : u.clp = restartClp line → u.Reports t → s.PortMove t
  | answered (dt : Nat) (f : InFrame) (rest : List InFrame) (a : Answer) :
      s.clp.inbound = f :: rest → s.clp.outbound.length < 8 → a.Fits (takenState dt f rest s) →
        s.PortMove (putReply s.clp.outbound.length f a)

section Moves

variable {dt : Nat} {s t : State}

theorem State.PortMove.tick (dt : Nat) (s : State) : s.PortMove (s.tick dt) := .reports (.refl s)

/-- An event of the supplied part is what its action makes of the port; without the supply only time passes. -/
theorem onSupply_portMove {act : State → State} (hact : s.PortMove (act (s.tick dt)))
    (e : onSupply dt s act = .next t) : s.PortMove t := by
  rw [← Host.Outcome.next.inj e]
  split
  · exact hact
  · exact .tick dt s

theorem onSupply_reports {act : State → State} (hact : ∀ {s t : State}, s.Reports t → s.Reports (act t))
    (e : onSupply dt s act = .next t) : s.PortMove t :=
  onSupply_portMove (.reports (hact (s := s) (t := s.tick dt) (.refl s))) e

/-- A frame that is taken finds room in the outbound queue, and its request is answered. -/
theorem takeRequest_portMove {α : Type} {kind : Byte} {reader : Reader α} {owner : α → State → Answer}
    (howner : ∀ s x, (owner x s).Fits s) : s.PortMove (takeRequest kind reader owner (s.tick dt)) := by
  have hanswer (f : InFrame) (u : State) : (answerFrame reader owner f u).Fits u := by
    unfold answerFrame
    split
    · exact howner _ _
    · exact .refuse _
  unfold takeRequest
  split
  · rename_i f rest hin
    split
    · rename_i htake
      simp only [State.canTake, Bool.and_eq_true, decide_eq_true_eq] at htake
      obtain ⟨-, hroom, -⟩ := htake
      exact .answered dt f rest _ hin hroom (hanswer f _)
    · exact .tick dt s
  · exact .tick dt s

theorem execRequest_portMove {α : Type} {kind : Byte} {reader : Reader α} {owner : α → State → Answer}
    (howner : ∀ s x, (owner x s).Fits s) (e : execRequest dt kind reader owner s = .next t) : s.PortMove t :=
  onSupply_portMove (takeRequest_portMove howner) e

theorem unknownTaken_portMove : s.PortMove (unknownTaken (s.tick dt)) := by
  unfold unknownTaken
  split
  · rename_i f rest hin
    split
    · rename_i htake
      simp only [State.canTake, Bool.and_eq_true, decide_eq_true_eq] at htake
      obtain ⟨-, hroom, -⟩ := htake
      exact .answered dt f rest _ hin hroom (.refuse _)
    · exact .tick dt s
  · exact .tick dt s

theorem restartTaken_portMove : s.PortMove (restartTaken (s.tick dt)) := by
  rcases restartTaken_reports (s.tick dt) with e | ⟨u, ⟨line, hline⟩, hu⟩
  · rw [e]
    exact .tick dt s
  · exact .restart u line hline hu

theorem exec_portMove {c : Instr} (e : exec c s = .next t) : s.PortMove t := by
  cases c with
  | detectLineChange dt level =>
    rw [← Host.Outcome.next.inj e]
    split
    · exact .reports (lineChanged_reports (t := s.tick dt) (.refl s) level)
    · exact .reports (.refl s)
  | byteReceived dt b framingError => exact onSupply_portMove (.byte dt b framingError) e
  | gapExpiry dt => exact onSupply_portMove (.gap dt) e
  | frameSent dt => exact onSupply_portMove (.sent dt) e
  | unknownKind => exact onSupply_portMove unknownTaken_portMove e
  | restart => exact Host.Outcome.next.inj e ▸ restartTaken_portMove
  | mainSupplyLoss => exact Host.Outcome.next.inj e ▸ .reports (.refl s)
  | standbySupplyLoss => exact Host.Outcome.next.inj e ▸ .reports (.refl s)
  | standbySupplyReturn => exact Host.Outcome.next.inj e ▸ .reports (.refl s)
  | scan => exact onSupply_reports (scanned_reports · _) e
  | debounceExpiry => exact onSupply_reports debounceExpired_reports e
  | powerOffTimeExpiry => exact onSupply_reports powerOffTimeExpired_reports e
  | linkSettleExpiry => exact onSupply_reports linkSettleExpired_reports e
  | identityReadEnd => exact onSupply_reports (identityReadEnded_reports · _) e
  | identityRetry => exact onSupply_reports identityRetried_reports e
  | poll => exact onSupply_reports pollMade_reports e
  | pollCompletion => exact onSupply_reports (pollEnded_reports · _) e
  | recoveryLineRead => exact onSupply_reports (linesRead_reports · _ _) e
  | clockPulseEnd => exact onSupply_reports (pulseEnded_reports · _) e
  | demandExpiry => exact onSupply_reports (demandExpired_reports · _) e
  | suspendTimerExpiry => exact onSupply_reports suspendExpired_reports e
  | drivePeriod => exact onSupply_reports (drivePeriodTaken_reports · _) e
  | driverTrip => exact onSupply_reports (driverTripped_reports · _) e
  | supplySettleExpiry => exact onSupply_reports supplySettleExpired_reports e
  | idleTimerExpiry => exact onSupply_reports idleTimerExpired_reports e
  | storeWriteCompletion => exact onSupply_reports (storeCompleted_reports · _) e
  | drive => exact execRequest_portMove driveOwner_fits e
  | status => exact execRequest_portMove statusOwner_fits e
  | readChanges => exact execRequest_portMove readChangesOwner_fits e
  | clearChanges => exact execRequest_portMove clearChangesOwner_fits e
  | changeConfig => exact execRequest_portMove changeConfigOwner_fits e
  | sectionConfig => exact execRequest_portMove sectionConfigOwner_fits e
  | profileWrite => exact execRequest_portMove profileOwner_fits e
  | release => exact execRequest_portMove releaseOwner_fits e
  | faultClear => exact execRequest_portMove faultClearOwner_fits e
  | arm => exact execRequest_portMove armOwner_fits e
  | disarm => exact execRequest_portMove disarmOwner_fits e
  | captureConfig => exact execRequest_portMove captureOwner_fits e
  | assortment => exact execRequest_portMove assortmentOwner_fits e
  | readLifts => exact execRequest_portMove readLiftsOwner_fits e
  | readTotals => exact execRequest_portMove readTotalsOwner_fits e
  | undoLast => exact execRequest_portMove undoLastOwner_fits e
  | correct => exact execRequest_portMove correctOwner_fits e
  | reassign => exact execRequest_portMove reassignOwner_fits e
  | manualLift => exact execRequest_portMove manualLiftOwner_fits e
  | tripClose => exact execRequest_portMove tripCloseOwner_fits e
  | payloadLimit => exact execRequest_portMove payloadLimitOwner_fits e
  | zoneWrite => exact execRequest_portMove zoneWriteOwner_fits e
  | zoneEnable => exact execRequest_portMove zoneEnableOwner_fits e
  | zoneRead => exact execRequest_portMove zoneReadOwner_fits e
  | limiterConfig => exact execRequest_portMove limiterOwner_fits e
  | ratedWrite => exact execRequest_portMove ratedOwner_fits e
  | linkStatus => exact execRequest_portMove linkStatusOwner_fits e
  | linkReset => exact execRequest_portMove linkResetOwner_fits e
  | calibrate => exact execRequest_portMove calibrateOwner_fits e
  | tare => exact execRequest_portMove tareOwner_fits e
  | channelCalibration => exact execRequest_portMove channelOwner_fits e
  | geometryConfig => exact execRequest_portMove geometryOwner_fits e
  | storeSettings => exact execRequest_portMove storeOwner_fits e
  | restartRequest => exact execRequest_portMove restartOwner_fits e

end Moves

/-! #### The receiver and the transmitter keep their bounds -/

section Line

variable {c : Clp}

theorem countUp_le (n : Nat) : countUp n ≤ 65535 := Nat.le_of_lt_succ (Nat.mod_lt _ (by decide))

/-- A discard leaves the receiver hunting and one count advanced within its 16 bits (R177). -/
theorem Clp.discard_sound (why : DiscardReason) (h : c.Sound) : (c.discard why).Sound := by
  obtain ⟨-, hinbound, hfields, houtbound, hnumber, hlength, hgap, hframing, hcheck, hfull⟩ := h
  refine ⟨rfl, hinbound, hfields, houtbound, hnumber, ?_⟩
  cases why
  · exact ⟨countUp_le _, hgap, hframing, hcheck, hfull⟩
  · exact ⟨hlength, countUp_le _, hframing, hcheck, hfull⟩
  · exact ⟨hlength, hgap, countUp_le _, hcheck, hfull⟩
  · exact ⟨hlength, hgap, hframing, countUp_le _, hfull⟩
  · exact ⟨hlength, hgap, hframing, hcheck, countUp_le _⟩

theorem Clp.sound_setReceiver (r : Receiver) (hr : r.fits = true) (h : c.Sound) : Clp.Sound { c with receiver := r } :=
  ⟨hr, h.2⟩

/-- In a frame whose length has been taken, a byte at least is to come (R176, R177). -/
theorem fits_inFrame_iff {length : Byte} {more : List Byte} {latest : Nat} :
    (Receiver.inFrame (length :: more) latest).fits = true ↔
      (1 ≤ length.toNat ∧ length.toNat ≤ 120) ∧ more.length + 1 < length.toNat + 4 := by
  simp [Receiver.fits, frameLeft]

theorem Clp.huntByte_sound (now : Nat) (b : Byte) (framingError : Bool) (h : c.Sound) :
    (c.huntByte now b framingError).Sound := by
  unfold Clp.huntByte
  split
  · exact Clp.sound_setReceiver _ rfl h
  · exact h

/-- A frame of at most 124 bytes after its marker carries at most 119 field bytes (R176). -/
theorem frameOf_fields_length {taken : List Byte} (h : taken.length ≤ 124) : (frameOf taken).fields.length ≤ 119 := by
  simp only [frameOf, List.length_drop, List.length_take]
  omega

theorem Clp.complete_sound {taken : List Byte} (htaken : taken.length ≤ 124) (h : c.Sound) :
    (c.complete taken).Sound := by
  unfold Clp.complete
  split
  · exact Clp.discard_sound _ h
  split
  · rename_i hroom
    obtain ⟨-, hinbound, hfields, hrest⟩ := h
    refine ⟨rfl, ?_, fun f hf => ?_, hrest⟩
    · rw [List.length_append]
      exact hroom
    · rcases List.mem_append.1 hf with hf | hf
      · exact hfields f hf
      · rw [List.mem_singleton.1 hf]
        exact frameOf_fields_length htaken
  · exact Clp.discard_sound _ h

theorem Clp.frameByte_sound {taken : List Byte} {latest : Nat} (now : Nat) (b : Byte) (framingError : Bool)
    (hr : (Receiver.inFrame taken latest).fits = true) (h : c.Sound) :
    (c.frameByte now taken b framingError).Sound := by
  unfold Clp.frameByte
  split
  · exact Clp.discard_sound _ h
  split
  · split
    · exact Clp.discard_sound _ h
    · rename_i hlength
      simp only [Bool.or_eq_true, decide_eq_true_eq, not_or, not_lt] at hlength
      exact Clp.sound_setReceiver _ (fits_inFrame_iff.2 ⟨by omega, by simp⟩) h
  · rename_i length more
    obtain ⟨hrange, hmore⟩ := fits_inFrame_iff.1 hr
    split
    · rename_i hleft
      exact Clp.sound_setReceiver _ (fits_inFrame_iff.2 ⟨hrange, by simpa [frameLeft] using hleft⟩) h
    · refine Clp.complete_sound ?_ h
      rw [List.length_append, List.length_cons, List.length_singleton]
      omega

theorem Clp.byte_sound (now : Nat) (b : Byte) (framingError : Bool) (h : c.Sound) :
    (c.byte now b framingError).Sound := by
  unfold Clp.byte
  split
  · exact Clp.huntByte_sound _ _ _ h
  · rename_i hr
    split
    · exact Clp.huntByte_sound _ _ _ (Clp.discard_sound _ h)
    · exact Clp.frameByte_sound now b framingError (hr ▸ h.1) h

/-- The gap ends a frame in progress, or has no effect (R177). -/
theorem gapExpired_clp (s : State) :
    gapExpired s = s ∨ gapExpired s = s.setClp (s.clp.discard .gap) := by
  unfold gapExpired
  split
  · split
    · exact .inr rfl
    · exact .inl rfl
  · exact .inl rfl

/-- A frame leaves the outbound queue at its front, or nothing does (R182). -/
theorem frameSent_eq (s : State) :
    frameSent s = s ∨ ∃ f rest restart, s.clp.outbound = f :: rest ∧
      frameSent s = s.setClp { s.clp with outbound := rest, restart := restart, line := f.bytes } := by
  unfold frameSent
  split
  · split
    · exact .inl rfl
    · exact .inr ⟨_, _, _, ‹_›, rfl⟩
  · exact .inl rfl

end Line

/-! #### What the receiver leaves of the port -/

section Receiving

variable (c : Clp)

/-- The outbound queue and the change set: what no byte that comes moves. -/
def Clp.sending : List OutFrame × SourceSet := (c.outbound, c.changeSet)

theorem Clp.huntByte_sending (now : Nat) (b : Byte) (framingError : Bool) :
    (c.huntByte now b framingError).sending = c.sending := by
  unfold Clp.huntByte
  split <;> rfl

theorem Clp.complete_sending (taken : List Byte) : (c.complete taken).sending = c.sending := by
  unfold Clp.complete
  split
  · rfl
  · split <;> rfl

theorem Clp.frameByte_sending (now : Nat) (taken : List Byte) (b : Byte) (framingError : Bool) :
    (c.frameByte now taken b framingError).sending = c.sending := by
  unfold Clp.frameByte
  split
  · rfl
  split
  · split <;> rfl
  · split
    · rfl
    · exact c.complete_sending _

theorem Clp.byte_sending (now : Nat) (b : Byte) (framingError : Bool) :
    (c.byte now b framingError).sending = c.sending := by
  unfold Clp.byte
  split
  · exact c.huntByte_sending _ _ _
  · split
    · exact (c.discard .gap).huntByte_sending _ _ _
    · exact c.frameByte_sending _ _ _ _

end Receiving

/-! #### Every step -/

section Steps

variable {s t : State}

theorem restartClp_sound (line : List Byte) : (restartClp line).Sound := by
  simp [Clp.Sound, restartClp, Receiver.fits, noDiscards]

/-- A frame taken and answered keeps the port when its owner does (R180). -/
theorem putReply_keepsPort {dt : Nat} {f : InFrame} {rest : List InFrame} {a : Answer} (hin : s.clp.inbound = f :: rest)
    (hroom : s.clp.outbound.length < 8) (ha : (takenState dt f rest s).KeepsPort a.state) :
    s.KeepsPort (putReply s.clp.outbound.length f a) := by
  refine ⟨fun h => ?_, ha.changes⟩
  obtain ⟨hreceiver, hinbound, hfields, -, hnumbers⟩ := h
  rw [hin] at hinbound hfields
  have htaken : (takenState dt f rest s).clp.Sound :=
    ⟨hreceiver, Nat.le_of_succ_le hinbound, fun g hg => hfields g (List.mem_cons_of_mem f hg),
      (List.length_append ..).trans_le hroom, hnumbers⟩
  obtain ⟨hreceiver, hinbound, hfields, houtbound, hnumbers⟩ := ha.sound htaken
  exact ⟨hreceiver, hinbound, hfields, (List.length_set ..).trans_le houtbound, hnumbers⟩

theorem State.PortMove.keepsPort (h : s.PortMove t) : s.KeepsPort t := by
  cases h with
  | reports h => exact h.keepsPort
  | byte dt b framingError =>
    refine ⟨fun h => Clp.byte_sound _ b framingError h, fun h => ?_⟩
    have hset : (byteTaken b framingError (s.tick dt)).clp.changeSet = s.clp.changeSet :=
      congrArg Prod.snd (s.clp.byte_sending _ b framingError)
    rw [State.ChangesSound, hset]
    exact h
  | gap dt =>
    rcases gapExpired_clp (s.tick dt) with e | e <;> rw [e]
    · exact ⟨id, id⟩
    · exact ⟨Clp.discard_sound _, id⟩
  | sent dt =>
    rcases frameSent_eq (s.tick dt) with e | ⟨f, rest, restart, hout, e⟩ <;> rw [e]
    · exact ⟨id, id⟩
    · refine ⟨fun h => ?_, id⟩
      obtain ⟨hreceiver, hinbound, hfields, houtbound, hnumbers⟩ := h
      rw [show s.clp.outbound = f :: rest from hout] at houtbound
      exact ⟨hreceiver, hinbound, hfields, Nat.le_of_succ_le houtbound, hnumbers⟩
  | restart u line hline hu =>
    have hport := hu.keepsPort
    refine ⟨fun _ => hport.sound (hline ▸ restartClp_sound line), fun _ => hport.changes ?_⟩
    rw [State.ChangesSound, hline]
    exact BitVec.zero_and
  | answered dt f rest a hin hroom ha => exact putReply_keepsPort hin hroom ha.keeps

end Steps

/-- Settles O11, by what a command can do to the port. -/
theorem stepKeepsPort : Obligations.StepKeepsPort :=
  ⟨fun _ _ h e => step_keeps (P := fun s => s.clp.Sound) (fun _ _ h => h)
      (fun _ _ _ h e => (exec_portMove e).keepsPort.sound h) h e,
    fun _ _ h e => step_keeps (P := State.ChangesSound) (fun _ _ h => h)
      (fun _ _ _ h e => (exec_portMove e).keepsPort.changes h) h e⟩

/-! #### A refused request -/

/-- A reply that stands where the outbound queue ended is that of the request the command took, and no other event puts
one there. -/
theorem State.PortMove.reply_eq {s t : State} {kind tag : Byte} {code : ResultCode} {body : ReplyBody}
    (h : s.PortMove t) (hreply : t.clp.outbound[s.clp.outbound.length]? = some (.reply kind tag code body)) :
    ∃ dt f rest a, s.clp.inbound = f :: rest ∧ a.Fits (takenState dt f rest s) ∧
      t = putReply s.clp.outbound.length f a ∧ f.kind = kind ∧ f.tag = tag ∧ a.result = code ∧ a.body = body := by
  cases h with
  | reports h =>
    obtain ⟨number, r, e⟩ := h.2.outbound le_rfl hreply
    cases e
  | byte dt b framingError =>
    have hout : (byteTaken b framingError (s.tick dt)).clp.outbound = s.clp.outbound :=
      congrArg Prod.fst (s.clp.byte_sending _ b framingError)
    simp [hout] at hreply
  | gap dt =>
    rcases gapExpired_clp (s.tick dt) with e | e <;> simp [e, Clp.discard] at hreply
  | sent dt =>
    rcases frameSent_eq (s.tick dt) with e | ⟨f, rest, restart, hout, e⟩
    · simp [e] at hreply
    · rw [State.tick_clp] at hout
      simp [e, hout] at hreply
  | restart u line hline hu =>
    obtain ⟨number, r, e⟩ := hu.2.outbound (by simp [hline, restartClp]) hreply
    cases e
  | answered dt f rest a hin hroom ha =>
    refine ⟨dt, f, rest, a, hin, ha, rfl, ?_⟩
    have hput : (a.state.clp.outbound.set s.clp.outbound.length (.reply f.kind f.tag a.result a.body))[
        s.clp.outbound.length]? = some (.reply kind tag code body) := hreply
    rw [List.getElem?_set_self', Option.map_eq_map] at hput
    obtain ⟨_, -, e⟩ := Option.map_eq_some_iff.1 hput
    cases e
    exact ⟨rfl, rfl, rfl, rfl⟩

/-- Settles O15: a reply at the end of the queue is a taken request's, and an owner that refuses changes nothing but the
validity it has read. -/
theorem refusedRequestChangesNothing : Obligations.RefusedRequestChangesNothing := by
  intro c s t kind tag code body e hreply hdone haccepted
  obtain ⟨dt, f, rest, a, hin, ha, rfl, rfl, rfl, rfl, rfl⟩ := (exec_portMove e).reply_eq hreply
  have hstate := ha.refused hdone haccepted
  rw [putReply, hstate, hin]
  simp [takenState, takeFrame, State.setClp, State.setWce, State.tick, State.setNow]

end Sys2Proof.Machine
end

section
/-! ### The checks of the two lines, and the bytes of a frame -/

namespace Sys2Proof.Machine

open Sys2Proof

/-! #### The checks -/

theorem crc16Bit_of_msb_false {c : BitVec 16} (h : c.msb = false) : crc16Bit c = c <<< 1 := by simp [crc16Bit, h]

/-- A bit step shifts a byte up, as long as it has not reached the top (R178). -/
theorem crc16Bit_shift (low : Byte) {n : Nat} (hn : n < 8) :
    crc16Bit (low.zeroExtend 16 <<< n) = low.zeroExtend 16 <<< (n + 1) := by
  have hmsb : (low.zeroExtend 16 <<< n).msb = false := by
    rw [BitVec.msb_eq_getLsbD_last]
    simp [BitVec.getLsbD_of_ge low (15 - n) (by omega)]
  rw [crc16Bit_of_msb_false hmsb, BitVec.shiftLeft_add]

/-- A byte that leaves the check's low byte alone to be divided shifts it up (R178). -/
theorem crc16Byte_of_low {c : BitVec 16} {b low : Byte} (h : c ^^^ (b.zeroExtend 16 <<< 8) = low.zeroExtend 16) :
    crc16Byte c b = low.zeroExtend 16 <<< 8 := by
  have hfirst : crc16Bit (low.zeroExtend 16) = low.zeroExtend 16 <<< 1 := by
    simpa using crc16Bit_shift low (n := 0) (by decide)
  rw [crc16Byte, h, hfirst]
  simp only [crc16Bit_shift low (n := 1) (by decide), crc16Bit_shift low (n := 2) (by decide),
    crc16Bit_shift low (n := 3) (by decide), crc16Bit_shift low (n := 4) (by decide),
    crc16Bit_shift low (n := 5) (by decide), crc16Bit_shift low (n := 6) (by decide),
    crc16Bit_shift low (n := 7) (by decide)]

theorem crc16_concat (bytes : List Byte) (b : Byte) : crc16 (bytes ++ [b]) = crc16Byte (crc16 bytes) b := by
  simp [crc16]

theorem crc8_concat (bytes : List Byte) (b : Byte) : crc8 (bytes ++ [b]) = crc8Byte (crc8 bytes) b := by simp [crc8]

/-- The bytes of a check, high byte first (R178). -/
theorem bytesOf16_eq (c : BitVec 16) : bytesOf16 c = [c.extractLsb' 8 8, c.extractLsb' 0 8] := by
  have hhigh : BitVec.ofNat 8 (c.toNat / 256) = c.extractLsb' 8 8 :=
    BitVec.eq_of_toNat_eq (by simp [Nat.shiftRight_eq_div_pow])
  have hlow : BitVec.ofNat 8 c.toNat = c.extractLsb' 0 8 := BitVec.eq_of_toNat_eq (by simp)
  rw [← hhigh, ← hlow]
  rfl

/-- The high byte of a check takes its high byte away, and the low byte what is left (R178). -/
theorem crc16_append_self (body : List Byte) : crc16 (body ++ bytesOf16 (crc16 body)) = 0#16 := by
  obtain ⟨c, hc⟩ : ∃ c, crc16 body = c := ⟨_, rfl⟩
  have hhigh : crc16Byte c (c.extractLsb' 8 8) = (c.extractLsb' 0 8).zeroExtend 16 <<< 8 := by
    refine crc16Byte_of_low ?_
    ext k hk
    by_cases hlow : k < 8
    · simp [hlow, BitVec.getLsbD_eq_getElem hk]
    · simp [hlow, show k - 8 < 8 by omega, show 8 + (k - 8) = k by omega, BitVec.getLsbD_eq_getElem hk]
  have hlow : crc16Byte ((c.extractLsb' 0 8).zeroExtend 16 <<< 8) (c.extractLsb' 0 8) = 0#16 := by
    rw [crc16Byte_of_low (low := 0#8) (by simp)]
    simp
  rw [hc, bytesOf16_eq, ← List.singleton_append, ← List.append_assoc, crc16_concat, crc16_concat, hc, hhigh, hlow]

theorem crc8_append_self (body : List Byte) : crc8 (body ++ [crc8 body]) = 0#8 := by
  rw [crc8_concat, crc8Byte, BitVec.xor_self]
  decide

/-- Settles O17: the check bytes are what is left of the division; the known values are computed. -/
theorem checkOfCorrectFrameIsZero : Obligations.CheckOfCorrectFrameIsZero :=
  ⟨crc16_append_self, by decide +kernel, crc8_append_self, by decide⟩

end Sys2Proof.Machine
end

section
/-! ### The receiver -/

namespace Sys2Proof.Machine

open Sys2Proof

/-! #### A byte, by what the receiver is in -/

section Bytes

variable {c : Clp} {now latest : Nat} {taken : List Byte} {b : Byte} {framingError : Bool}

/-- Hunting, a start marker without a framing error begins a frame (R175, R177). -/
theorem Clp.huntByte_eq (h : c.receiver = .hunting) : c.huntByte now b framingError =
    { c with receiver := if b = 0x7E#8 ∧ framingError = false then .inFrame [] now else .hunting } := by
  have hmarker : (decide (b = startMarker) && !framingError) = true ↔ b = 0x7E#8 ∧ framingError = false := by
    rw [Bool.and_eq_true, decide_eq_true_iff, Bool.not_eq_true']
    rfl
  rw [Clp.huntByte, if_congr hmarker rfl rfl]
  split
  · rfl
  · rw [← h]

theorem Clp.byte_of_hunting (h : c.receiver = .hunting) :
    c.byte now b framingError = c.huntByte now b framingError := by simp [Clp.byte, h]

/-- More than 5 ms after the byte before it, a byte comes after the gap (R177). -/
theorem Clp.byte_of_late (h : c.receiver = .inFrame taken latest) (hlate : latest + 5 < now) :
    c.byte now b framingError = (c.discard .gap).huntByte now b framingError := by simp [Clp.byte, h, gapTime, hlate]

theorem Clp.byte_of_inFrame (h : c.receiver = .inFrame taken latest) (htime : now ≤ latest + 5) :
    c.byte now b framingError = c.frameByte now taken b framingError := by
  simp [Clp.byte, h, gapTime, Nat.not_lt.2 htime]

/-- A length outside 1..120 (R177). -/
theorem Clp.frameByte_badLength (h : b.toNat = 0 ∨ 120 < b.toNat) :
    c.frameByte now [] b false = c.discard .length := by simp [Clp.frameByte, h]

theorem Clp.frameByte_length (hlo : 1 ≤ b.toNat) (hhi : b.toNat ≤ 120) :
    c.frameByte now [] b false = { c with receiver := .inFrame [b] now } := by
  simp [Clp.frameByte, Nat.ne_of_gt hlo, Nat.not_lt.2 hhi]

/-- A byte that does not complete the frame joins it (R177). -/
theorem Clp.frameByte_joins {length : Byte} {more : List Byte} (h : (length :: more).length + 1 < length.toNat + 4) :
    c.frameByte now (length :: more) b false = { c with receiver := .inFrame (length :: more ++ [b]) now } :=
  (if_neg Bool.false_ne_true).trans (if_pos h)

theorem Clp.frameByte_completes {length : Byte} {more : List Byte}
    (h : length.toNat + 4 ≤ (length :: more).length + 1) :
    c.frameByte now (length :: more) b false = c.complete (length :: more ++ [b]) :=
  (if_neg Bool.false_ne_true).trans (if_neg (Nat.not_lt.2 h))

/-- The check is of all bytes but the last two, which are its own (R178). -/
theorem checkMatches_iff {n : Nat} (hn : taken.length = n + 2) :
    checkMatches taken = true ↔ bytesOf16 (crc16 (taken.take n)) = taken.drop n := by
  rw [checkMatches, hn, Nat.add_sub_cancel, beq_iff_eq, eq_comm]

theorem Clp.complete_of_check (h : checkMatches taken = false) : c.complete taken = c.discard .check := by
  simp [Clp.complete, h]

/-- What a whole frame gives does not depend on the receiver it was taken by. -/
theorem Clp.complete_setReceiver (r : Receiver) : Clp.complete { c with receiver := r } taken = c.complete taken := rfl

end Bytes

/-! #### BYTE_RECEIVED -/

theorem exec_byteReceived {s : State} (h : s.power.main = true) (dt : Nat) (b : Byte) (framingError : Bool) :
    exec (.byteReceived dt b framingError) s =
      .next { s with now := s.now + dt, clp := s.clp.byte (s.now + dt) b framingError } :=
  onSupply_main dt s (byteTaken b framingError) h

/-- Settles O20, by what the receiver is in. -/
theorem byteReceivedMovesReceiver : Obligations.ByteReceivedMovesReceiver := by
  intro s dt b framingError hmain
  rw [exec_byteReceived hmain]
  refine ⟨fun h => ?_, fun taken latest h => ⟨?_, ?_, ?_, ?_, ?_⟩⟩
  · rw [Clp.byte_of_hunting h, Clp.huntByte_eq h]
  · rintro htime rfl
    rw [Clp.byte_of_inFrame h htime]
    rfl
  · rintro htime rfl rfl hlength
    rw [Clp.byte_of_inFrame h htime, Clp.frameByte_badLength hlength]
    rfl
  · rintro htime rfl (⟨rfl, hlo, hhi⟩ | ⟨length, more, rfl, hleft⟩)
    · rw [Clp.byte_of_inFrame h htime, Clp.frameByte_length hlo hhi]
      rfl
    · rw [Clp.byte_of_inFrame h htime, Clp.frameByte_joins hleft]
  · rintro length more htime rfl rfl hleft hcheck
    have hfails : checkMatches (length :: more ++ [b]) = false := by
      rw [Bool.eq_false_iff]
      refine fun hmatches => hcheck ((checkMatches_iff ?_).1 hmatches)
      simp only [List.length_append, List.length_cons, List.length_nil] at hleft ⊢
      omega
    rw [Clp.byte_of_inFrame h htime, Clp.frameByte_completes hleft, Clp.complete_of_check hfails]
    rfl
  · intro hlate
    rw [Clp.byte_of_late h hlate, Clp.huntByte_eq rfl]
    rfl

/-! #### The bytes of a correct frame -/

/-- The port after bytes without framing errors have come, each the given ms after the one before it. -/
def Clp.hear (c : Clp) (now : Nat) : List Nat → List Byte → Clp
  | gap :: gaps, b :: bytes => (c.byte (now + gap) b false).hear (now + gap) gaps bytes
  | _, _ => c

theorem run_succ {M : Host.Core} {s t : M.State} (h : M.step s = .next t) (n : Nat) : M.run (n + 1) s = M.run n t := by
  rw [Host.Core.run, h]

/-- Bytes that wait as commands are heard one after the other (R175). -/
theorem run_bytes {s : State} {gaps : List Nat} {bytes : List Byte} (hlength : gaps.length = bytes.length)
    (hmain : s.power.main = true)
    (hpending : s.pending = List.zipWith (fun g b => Instr.byteReceived g b false) gaps bytes) :
    core.run bytes.length s =
      .next { s with now := s.now + gaps.sum, pending := [], clp := s.clp.hear s.now gaps bytes } := by
  induction gaps generalizing s bytes with
  | nil =>
    obtain rfl : bytes = [] := List.length_eq_zero_iff.1 hlength.symm
    rw [List.zipWith_nil_left] at hpending
    rw [← hpending]
    rfl
  | cons gap gaps ih =>
    cases bytes with
    | nil => cases hlength
    | cons b bytes =>
      rw [List.zipWith_cons_cons] at hpending
      have hstep : step s = exec (.byteReceived gap b false)
          (s.setPending (List.zipWith (fun g b => .byteReceived g b false) gaps bytes)) := by rw [step, hpending]
      rw [exec_byteReceived (by exact hmain)] at hstep
      refine (run_succ (M := core) hstep bytes.length).trans ((ih (Nat.succ.inj hlength) ?_ ?_).trans ?_)
      · exact hmain
      · rfl
      · rw [List.sum_cons, ← Nat.add_assoc]
        rfl

/-- The bytes after the length of a frame, heard in time, are taken whole (R177). -/
theorem Clp.hear_frame {c : Clp} {now : Nat} {length : Byte} {more bytes : List Byte} {gaps : List Nat}
    (h : c.receiver = .inFrame (length :: more) now) (hbytes : bytes ≠ [])
    (hleft : more.length + bytes.length = length.toNat + 3) (hlength : gaps.length = bytes.length)
    (hgaps : ∀ g ∈ gaps, g ≤ 5) : c.hear now gaps bytes = c.complete (length :: more ++ bytes) := by
  induction bytes generalizing c now more gaps with
  | nil => exact absurd rfl hbytes
  | cons b bytes ih =>
    obtain ⟨gap, gaps, rfl⟩ := List.exists_cons_of_length_eq_add_one hlength
    have htime : now + gap ≤ now + 5 := Nat.add_le_add_left (hgaps gap (List.mem_cons_self ..)) now
    rw [Clp.hear, Clp.byte_of_inFrame h htime]
    cases bytes with
    | nil =>
      have hlast : length.toNat + 4 ≤ (length :: more).length + 1 := by
        rw [List.length_singleton] at hleft
        rw [List.length_cons]
        omega
      rw [Clp.frameByte_completes hlast]
      cases gaps <;> rfl
    | cons b' bytes =>
      rw [List.length_cons, List.length_cons] at hleft
      have hjoins : (length :: more).length + 1 < length.toNat + 4 := by
        rw [List.length_cons]
        omega
      have hrest : (more ++ [b]).length + (b' :: bytes).length = length.toNat + 3 := by
        rw [List.length_append, List.length_singleton, List.length_cons]
        omega
      rw [Clp.frameByte_joins hjoins, ih rfl (List.cons_ne_nil _ _) hrest (Nat.succ.inj hlength)
        fun g hg => hgaps g (List.mem_cons_of_mem gap hg), Clp.complete_setReceiver]
      simp

/-- A whole frame with a correct check is put in the queue, or counted as Full (R178, R179). -/
theorem Clp.complete_frame {c : Clp} {length kind tag : Byte} {fields : List Byte} :
    c.complete (length :: kind :: tag :: fields ++ bytesOf16 (crc16 (length :: kind :: tag :: fields))) =
      if c.inbound.length < 4 then
        { c with receiver := .hunting, inbound := c.inbound ++ [{ kind := kind, tag := tag, fields := fields }] }
      else c.discard .full := by
  obtain ⟨body, hbody⟩ : ∃ body, length :: kind :: tag :: fields = body := ⟨_, rfl⟩
  have hcheck : (bytesOf16 (crc16 body)).length = 2 := natBytes_length ..
  have hmatches : checkMatches (body ++ bytesOf16 (crc16 body)) = true := by
    refine (checkMatches_iff (n := body.length) (by rw [List.length_append, hcheck])).2 ?_
    rw [List.take_left, List.drop_left]
  have hframe : frameOf (body ++ bytesOf16 (crc16 body)) = { kind := kind, tag := tag, fields := fields } := by
    rw [frameOf, List.length_append, hcheck, Nat.add_sub_cancel, List.take_left, ← hbody]
    rfl
  rw [hbody, Clp.complete, hmatches, hframe]
  rfl

/-- The bytes of a correct frame, each in time, heard by a receiver that hunts (R175 to R179). -/
theorem Clp.hear_frameBytes {c : Clp} {now : Nat} {kind tag : Byte} {fields : List Byte} {gaps : List Nat}
    (h : c.receiver = .hunting) (hfields : fields.length ≤ 119) (hlength : gaps.length = fields.length + 6)
    (hgaps : ∀ g ∈ gaps, g ≤ 5) :
    c.hear now gaps (frameBytes kind (tag :: fields)) =
      if c.inbound.length < 4 then
        { c with inbound := c.inbound ++ [{ kind := kind, tag := tag, fields := fields }] }
      else { c with discards := { c.discards with full := (c.discards.full + 1) % 65536 } } := by
  obtain ⟨first, gaps, rfl⟩ := List.exists_cons_of_length_eq_add_one hlength
  obtain ⟨second, gaps, rfl⟩ := List.exists_cons_of_length_eq_add_one (Nat.succ.inj hlength)
  obtain ⟨length, hlengthByte⟩ : ∃ b, BitVec.ofNat 8 (tag :: fields).length = b := ⟨_, rfl⟩
  have hnumber : length.toNat = fields.length + 1 := by
    rw [← hlengthByte, BitVec.toNat_ofNat, List.length_cons]
    omega
  have hcheck : (bytesOf16 (crc16 (length :: kind :: tag :: fields))).length = 2 := natBytes_length ..
  have htime : now + first + second ≤ now + first + 5 :=
    Nat.add_le_add_left (hgaps second (List.mem_cons_of_mem _ (List.mem_cons_self ..))) _
  rw [frameBytes, hlengthByte, Clp.hear, Clp.byte_of_hunting h, Clp.huntByte_eq h, if_pos ⟨rfl, rfl⟩, List.cons_append,
    Clp.hear, Clp.byte_of_inFrame rfl htime, Clp.frameByte_length (by omega) (by omega), List.cons_append,
    Clp.hear_frame rfl (List.cons_ne_nil _ _)]
  · refine (Clp.complete_frame (c := c)).trans ?_
    split
    · rw [← h]
    · rw [Clp.discard, ← h]
      rfl
  · simp only [List.length_append, List.length_cons, List.length_nil, hcheck]
    omega
  · simp only [List.length_append, List.length_cons, hcheck] at hlength ⊢
    omega
  · exact fun g hg => hgaps g (List.mem_cons_of_mem _ (List.mem_cons_of_mem _ hg))

/-- Settles O19, a byte at a time up to the last one, which completes the frame. -/
theorem correctFrameIsReceived : Obligations.CorrectFrameIsReceived := by
  intro s kind tag fields gaps hmain hreceiver hfields hlength hgaps hpending
  have hbytes : (frameBytes kind (tag :: fields)).length = fields.length + 6 := by
    simp [frameBytes, bytesOf16]
  have hrun := run_bytes (hlength.trans hbytes.symm) hmain hpending
  rw [hbytes, Clp.hear_frameBytes hreceiver hfields hlength hgaps] at hrun
  exact hrun

end Sys2Proof.Machine
end

section
/-! ### The transmitter and the gap -/

namespace Sys2Proof.Machine

open Sys2Proof

/-! #### The bytes of a frame -/

/-- The marker, the content and its check (R176, R178). -/
theorem frameBytes_of_content {kind : Byte} {payload content : List Byte}
    (h : content = BitVec.ofNat 8 payload.length :: kind :: payload) :
    frameBytes kind payload = 0x7E#8 :: (content ++ bytesOf16 (crc16 content)) := by
  rw [h]
  rfl

/-- A reply's payload is its tag, its code and its fields (R176, R181). -/
theorem reply_bytes {kind tag code : Byte} {result : ResultCode} {body : ReplyBody} {content : List Byte}
    (hcode : enumByte result.ctorIdx = [code])
    (h : content = BitVec.ofNat 8 ((encodeBody body).length + 2) :: kind :: tag :: code :: encodeBody body) :
    (OutFrame.reply kind tag result body).bytes = 0x7E#8 :: (content ++ bytesOf16 (crc16 content)) := by
  refine frameBytes_of_content ?_
  rw [h, OutFrame.payload, hcode]
  rfl

/-- A report's payload is its number and its fields (R176). -/
theorem report_bytes {number : Nat} {r : Report} {content : List Byte}
    (h : content = BitVec.ofNat 8 ((encodeReport r).length + 1) :: r.kind :: BitVec.ofNat 8 number :: encodeReport r) :
    (OutFrame.report number r).bytes = 0x7E#8 :: (content ++ bytesOf16 (crc16 content)) := frameBytes_of_content h

/-! #### GAP_EXPIRY -/

section Gap

variable {s : State}

theorem gapExpired_of_inFrame {taken : List Byte} {latest : Nat} (h : s.clp.receiver = .inFrame taken latest) :
    gapExpired s = if latest + 5 ≤ s.now then s.setClp (s.clp.discard .gap) else s := by
  unfold gapExpired
  rw [h]
  rfl

theorem gapExpired_of_hunting (h : s.clp.receiver = .hunting) : gapExpired s = s := by simp [gapExpired, h]

end Gap

/-! #### FRAME_SENT -/

section Sent

variable {s : State} {f : OutFrame} {rest : List OutFrame}

theorem isRestartReply_iff : f.isRestartReply = true ↔ ∃ tag body, f = .reply 0x61#8 tag .done body := by
  cases f with
  | reply kind tag result body => simp [OutFrame.isRestartReply, restartKindCode]
  | report number r => simp [OutFrame.isRestartReply]

theorem frameSent_of_empty (h : s.clp.outbound = []) : frameSent s = s := by simp [frameSent, h]

/-- Behind a Restart reply that has been sent no frame goes (R190). -/
theorem frameSent_of_due {p : PendingRestart} (hp : s.clp.restart = some p) (hsent : p.replySent = true) :
    frameSent s = s := by
  unfold frameSent
  split
  · simp [Clp.restartDue, hp, hsent]
  · rfl

theorem frameSent_of_no_restart (h : s.clp.outbound = f :: rest) (hr : s.clp.restart = none) :
    frameSent s = s.setClp { s.clp with outbound := rest, line := f.bytes } := by
  simp [frameSent, h, hr, Clp.restartDue]

theorem frameSent_of_restart {k : RestartKind} (h : s.clp.outbound = f :: rest)
    (hr : s.clp.restart = some { kind := k, replySent := false }) :
    frameSent s = s.setClp { s.clp with
      outbound := rest, line := f.bytes, restart := some { kind := k, replySent := f.isRestartReply } } := by
  simp [frameSent, h, hr, Clp.restartDue]

end Sent

/-- Settles O21: the bytes of the two kinds of frame, then the two events by what they find. -/
theorem gapExpiryAndFrameSent : Obligations.GapExpiryAndFrameSent := by
  refine ⟨⟨encodeBody, rfl, ?_⟩, ⟨encodeReport, fun _ _ => rfl, ?_⟩, fun s dt hmain => ?_⟩
  · rintro kind tag code result body content rfl h
    exact reply_bytes (by cases result <;> rfl) h
  · rintro number kind r content rfl h
    refine report_bytes ?_
    rw [h]
    cases r <;> rfl
  have hgap : exec (.gapExpiry dt) s = .next (gapExpired (s.tick dt)) := onSupply_main dt s gapExpired hmain
  have hsent : exec (.frameSent dt) s = .next (frameSent (s.tick dt)) := onSupply_main dt s frameSent hmain
  rw [hgap, hsent]
  refine ⟨fun taken latest h => ?_, fun h => ?_, fun h => ?_, fun p hp hdue => ?_, fun f rest h hr => ?_,
    fun f rest k sent h hr hreply => ?_⟩
  · rw [gapExpired_of_inFrame (s := s.tick dt) h]
    rfl
  · rw [gapExpired_of_hunting (s := s.tick dt) h]
    rfl
  · rw [frameSent_of_empty (s := s.tick dt) h]
    rfl
  · rw [frameSent_of_due (s := s.tick dt) hp hdue]
    rfl
  · rw [frameSent_of_no_restart (s := s.tick dt) h hr]
    rfl
  · obtain rfl : sent = f.isRestartReply := Bool.eq_iff_iff.2 (hreply.trans isRestartReply_iff.symm)
    rw [frameSent_of_restart (s := s.tick dt) h hr]
    rfl

end Sys2Proof.Machine
end

section
/-! ### Requests that wait, and requests that are not known or do not decode -/

namespace Sys2Proof.Machine

open Sys2Proof

/-! #### The rows of the requests -/

/-- The kind and the command of each request; the kinds are `requestKinds` (section 9.5). -/
def requestRows : List (Byte × (Nat → Instr)) :=
  [(0x01#8, .status), (0x02#8, .readChanges), (0x03#8, .clearChanges), (0x04#8, .changeConfig), (0x10#8, .drive),
    (0x11#8, .sectionConfig), (0x12#8, .profileWrite), (0x14#8, .release), (0x15#8, .faultClear), (0x20#8, .arm),
    (0x21#8, .disarm), (0x22#8, .captureConfig), (0x30#8, .assortment), (0x31#8, .readLifts), (0x32#8, .readTotals),
    (0x33#8, .undoLast), (0x34#8, .correct), (0x35#8, .reassign), (0x36#8, .manualLift), (0x37#8, .tripClose),
    (0x38#8, .payloadLimit), (0x40#8, .zoneWrite), (0x41#8, .zoneEnable), (0x42#8, .zoneRead), (0x48#8, .limiterConfig),
    (0x49#8, .ratedWrite), (0x50#8, .linkStatus), (0x51#8, .linkReset), (0x52#8, .calibrate), (0x53#8, .tare),
    (0x58#8, .channelCalibration), (0x59#8, .geometryConfig), (0x60#8, .storeSettings), (0x61#8, .restartRequest)]

/-- Each row takes a request of its kind, with a reader and an owner of its own (R180). -/
theorem requestRows_take : ∀ x ∈ requestRows, ∃ (α : Type) (reader : Reader α) (owner : α → State → Answer),
    ∀ dt s, exec (x.2 dt) s = execRequest dt x.1 reader owner s := by
  iterate 34 refine List.forall_mem_cons.2 ⟨⟨_, _, _, fun _ _ => rfl⟩, ?_⟩
  exact nofun

/-! #### Waiting -/

section Waits

variable {s : State} {dt : Nat}

theorem canTake_of_blocked (h : 8 ≤ s.clp.outbound.length ∨ s.clp.restart ≠ none) : s.canTake = false := by
  rcases h with h | h
  · simp [State.canTake, outboundMax, Nat.not_lt.2 h]
  · simp [State.canTake, Option.isSome_iff_ne_none, h]

/-- A request waits behind 8 frames or a pending restart, and its row behind a frame of another kind (R180, R190). -/
theorem execRequest_waits {α : Type} {kind : Byte} {reader : Reader α} {owner : α → State → Answer}
    (h : (∀ f ∈ s.clp.inbound.head?, f.kind ≠ kind) ∨ 8 ≤ s.clp.outbound.length ∨ s.clp.restart ≠ none) :
    execRequest dt kind reader owner s = .next { s with now := s.now + dt } :=
  execRequest_not_taken dt kind reader owner s
    (h.imp (fun h f rest hin => h f (by rw [hin]; rfl)) canTake_of_blocked)

/-- UNKNOWN_KIND takes no frame of a known kind, and none that waits (R180, R190). -/
theorem unknownTaken_waits
    (h : (∀ f ∈ s.clp.inbound.head?, f.kind ∈ requestKinds) ∨ 8 ≤ s.clp.outbound.length ∨ s.clp.restart ≠ none) :
    unknownTaken s = s := by
  unfold unknownTaken
  split
  · rename_i f rest hin
    refine if_neg fun htake => ?_
    rw [Bool.and_eq_true, Bool.not_eq_true', ← Bool.not_eq_true, List.contains_iff_mem] at htake
    obtain ⟨hkind, hroom⟩ := htake
    rcases h with h | h
    · exact hkind (h f (by rw [hin]; rfl))
    · rw [canTake_of_blocked h] at hroom
      exact Bool.false_ne_true hroom
  · rfl

theorem exec_unknownKind_waits
    (h : (∀ f ∈ s.clp.inbound.head?, f.kind ∈ requestKinds) ∨ 8 ≤ s.clp.outbound.length ∨ s.clp.restart ≠ none) :
    exec (.unknownKind dt) s = .next { s with now := s.now + dt } := by
  have hwaits : unknownTaken (s.tick dt) = s.tick dt := unknownTaken_waits h
  cases hmain : s.power.main with
  | true => exact (onSupply_main dt s unknownTaken hmain).trans (congrArg _ hwaits)
  | false => exact onSupply_off dt s unknownTaken hmain

end Waits

/-! #### Refusals by the port -/

section Refused

variable {s : State} {dt : Nat} {kind tag : Byte} {fields : List Byte} {rest : List InFrame}

/-- A kind that names no request (R180 step 2). -/
theorem exec_unknownKind_asked (h : s.asked kind tag fields rest) (hkind : kind ∉ requestKinds) :
    exec (.unknownKind dt) s = .next (s.replied dt rest kind tag .unknownKind .none) := by
  obtain ⟨hmain, hin, hroom, hrestart⟩ := h
  have hin' : (s.tick dt).clp.inbound = { kind := kind, tag := tag, fields := fields } :: rest := hin
  have htake : (!requestKinds.contains kind && (s.tick dt).canTake) = true := by
    simp [State.canTake, outboundMax, hkind, hroom, hrestart]
  refine (onSupply_main dt s unknownTaken hmain).trans (congrArg _ ?_)
  rw [unknownTaken, hin']
  exact (if_pos htake).trans (putReply_refuse ..)

theorem readNothing_of_ne_nil (h : fields ≠ []) : decodeAll readNothing fields = none := by
  cases fields with
  | nil => exact absurd rfl h
  | cons b bytes => rfl

end Refused

/-- Settles O22: a row that cannot take its request, a kind that is not known, and the payloads that do not decode, for
each request by its reader. -/
theorem unknownOrUndecodedIsRefused : Obligations.UnknownOrUndecodedIsRefused := by
  refine ⟨fun s dt => ⟨fun x hx h => ?_, exec_unknownKind_waits⟩, fun s dt kind tag fields rest h hkind => ?_,
    fun s dt tag fields rest => ⟨fun hfields => ?_, ?_⟩⟩
  · obtain ⟨α, reader, owner, hexec⟩ := requestRows_take x hx
    rw [hexec]
    exact execRequest_waits h
  · exact exec_unknownKind_asked h hkind
  · have hnone := readNothing_of_ne_nil hfields
    iterate 10 refine List.forall_mem_cons.2 ⟨fun h => asked_undecoded _ h hnone, ?_⟩
    exact nofun
  · iterate 24 refine List.forall_mem_cons.2 ⟨fun hnone h => asked_undecoded _ h (of_decide_eq_true hnone), ?_⟩
    exact nofun

end Sys2Proof.Machine
end

section
/-! ### The change set: its requests and its latches -/

namespace Sys2Proof.Machine

open Sys2Proof

/-! #### The three requests of the change set -/

section Requests

variable {s : State} {dt : Nat} {kind tag : Byte} {fields : List Byte} {rest : List InFrame}

/-- The reply of a request that replaces settings and the change set (R187). -/
theorem putReply_configured (x : Settings) (set : SourceSet) (body : ReplyBody) :
    putReply s.clp.outbound.length { kind := kind, tag := tag, fields := fields }
        (answerDone
          (((takenState dt { kind := kind, tag := tag, fields := fields } rest s).setSettings x).putChanges set) body) =
      { s with
        now := s.now + dt
        settings := x
        clp := { s.clp.answered rest kind tag .done body with changeSet := set } } := by
  simp [putReply, answerDone, takenState, takeFrame, State.putChanges, State.setClp, State.setSettings, State.tick,
    State.setNow, Clp.answered]

/-- The reply of a request that replaces the change set alone (R188, R189). -/
theorem putReply_putChanges (set : SourceSet) (body : ReplyBody) :
    putReply s.clp.outbound.length { kind := kind, tag := tag, fields := fields }
        (answerDone ((takenState dt { kind := kind, tag := tag, fields := fields } rest s).putChanges set) body) =
      { s with
        now := s.now + dt
        clp := { s.clp.answered rest kind tag .done body with changeSet := set } } :=
  putReply_configured s.settings set body

theorem readChangesOwner_clearOnRead (h : s.settings.ackMode = .clearOnRead) (u : Unit) : readChangesOwner u s =
    answerDone (s.putChanges 0#16) (.changes s.clp.changeSet s.settings.enables .clearOnRead (some 0#16)) := by
  simp [readChangesOwner, h]

theorem readChangesOwner_explicit (h : s.settings.ackMode = .explicit) (u : Unit) :
    readChangesOwner u s = answerDone s (.changes s.clp.changeSet s.settings.enables .explicit none) := by
  simp [readChangesOwner, h]

theorem exec_readChanges_clearOnRead (h : s.asked 0x02#8 tag [] rest) (hmode : s.settings.ackMode = .clearOnRead) :
    exec (.readChanges dt) s =
      .next
        { s with
          now := s.now + dt
          clp :=
            { s.clp.answered rest 0x02#8 tag .done
                (.changes s.clp.changeSet s.settings.enables .clearOnRead (some 0#16)) with
              changeSet := 0#16 } } := by
  refine (asked_decoded (x := ()) readChangesOwner h rfl).trans (congrArg _ ?_)
  rw [readChangesOwner_clearOnRead (by exact hmode), putReply_putChanges]
  rfl

theorem exec_readChanges_explicit (h : s.asked 0x02#8 tag [] rest) (hmode : s.settings.ackMode = .explicit) :
    exec (.readChanges dt) s =
      .next (s.replied dt rest 0x02#8 tag .done (.changes s.clp.changeSet s.settings.enables .explicit none)) := by
  refine (asked_decoded (x := ()) readChangesOwner h rfl).trans (congrArg _ ?_)
  rw [readChangesOwner_explicit (by exact hmode)]
  exact putReply_same ..

/-- A set as it comes: the first byte names sources 8 to 15, the second 0 to 7 (log entry 38). -/
theorem readSources_getLsbD (hi lo : Byte) (k : Nat) :
    (BitVec.ofNat 16 (natOfBytes [hi, lo])).getLsbD k = if k < 8 then lo.getLsbD k else hi.getLsbD (k - 8) := by
  have happend : BitVec.ofNat 16 (natOfBytes [hi, lo]) = hi ++ lo := by
    refine BitVec.eq_of_toNat_eq ?_
    have hlo := lo.isLt
    have hhi := hi.isLt
    rw [BitVec.toNat_append, ← Nat.shiftLeft_add_eq_or_of_lt hlo, Nat.shiftLeft_eq]
    simp only [natOfBytes, List.foldl_cons, List.foldl_nil, BitVec.toNat_ofNat]
    omega
  rw [happend, BitVec.getLsbD_append]

theorem exec_clearChanges (hi lo : Byte) (h : s.asked 0x03#8 tag [hi, lo] rest) {left : SourceSet}
    (hleft : left = s.clp.changeSet &&& ~~~BitVec.ofNat 16 (natOfBytes [hi, lo])) :
    exec (.clearChanges dt) s =
      .next
        { s with
          now := s.now + dt
          clp := { s.clp.answered rest 0x03#8 tag .done (.changeSet left) with changeSet := left } } := by
  subst hleft
  exact (asked_decoded clearChangesOwner h rfl).trans (congrArg _ (putReply_putChanges _ _))

theorem exec_changeConfig {r : ChangeConfigRequest} (h : s.asked 0x04#8 tag fields rest)
    (hr : decodeAll readChangeConfig fields = some r) {left : SourceSet}
    (hleft : left = membersLeft s.clp.changeSet s.settings.enables (r.enables.getD s.settings.enables)) :
    exec (.changeConfig dt) s =
      .next
        { s with
          now := s.now + dt
          settings := changeSettings r s.settings
          clp :=
            { s.clp.answered rest 0x04#8 tag .done
                (.changeConfig (r.enables.getD s.settings.enables) (r.mode.getD s.settings.ackMode) left) with
              changeSet := left } } := by
  subst hleft
  exact (asked_decoded changeConfigOwner h hr).trans (congrArg _ (putReply_configured _ _ _))

end Requests

/-- Settles O24, a request at a time. -/
theorem changeRequestsKeepSet : Obligations.ChangeRequestsKeepSet := by
  refine ⟨fun s dt tag rest => ⟨fun h => ⟨exec_readChanges_clearOnRead h, exec_readChanges_explicit h⟩,
    fun hi lo h => ?_⟩, fun s dt tag fields rest r h hr => ?_⟩
  · refine ⟨_, fun k hk => ?_, exec_clearChanges hi lo h rfl⟩
    rw [BitVec.getLsbD_and, BitVec.getLsbD_not, readSources_getLsbD, decide_eq_true hk, Bool.true_and]
  · refine ⟨_, fun k hk => ?_, exec_changeConfig h hr rfl⟩
    simp [membersLeft, hk]

/-! #### Latches and reports -/

/-- The set that a source joins holds it and its members (R187). -/
theorem gained_getLsbD (set : SourceSet) (src : ChangeSource) {k : Nat} (hk : k < 16) :
    (set ||| src.mask).getLsbD k = (set.getLsbD k || k == src.bit) := by
  rw [BitVec.getLsbD_or, src.getLsbD_mask hk]

/-- Settles O25: a report by its definition, a latch by the enable and the membership of its source. -/
theorem latchRaisesOneReport : Obligations.LatchRaisesOneReport := by
  refine ⟨fun c r => rfl, fun s src => ⟨fun henabled hmember => ?_, fun h => ?_⟩⟩
  · have hnew : (hasSource s.settings.enables src && !hasSource s.clp.changeSet src) = true := by
      simp [hasSource, henabled, hmember]
    refine ⟨s.clp.changeSet ||| src.mask, fun k hk => gained_getLsbD _ src hk, ?_⟩
    rw [latch_eq, if_pos hnew]
    rfl
  · have hold : ¬(hasSource s.settings.enables src && !hasSource s.clp.changeSet src) = true := by
      rcases h with h | h <;> simp [hasSource, h]
    rw [latch_eq, if_neg hold]

end Sys2Proof.Machine
end

section
/-! ### The clock, the supplies, the queue of commands and the store: what the commands leave of them -/

namespace Sys2Proof.Machine

open Sys2Proof

/-- The clock, the supplies and the queue of waiting commands. -/
def State.timing (s : State) : Nat × Power × List Instr := (s.now, s.power, s.pending)

theorem State.timing_eq_iff {s t : State} :
    t.timing = s.timing ↔ t.now = s.now ∧ t.power = s.power ∧ t.pending = s.pending := by
  simp [State.timing]

/-- The timing and the store: the part of the state that only the store's own commands, a restart and the supplies move,
but for the time that passes. -/
def State.base (s : State) : (Nat × Power × List Instr) × Ssr := (s.timing, s.ssr)

section Updates

variable (s : State)

@[simp] theorem State.setSettings_base (x : Settings) : (s.setSettings x).base = s.base := rfl
@[simp] theorem State.setWlc_base (x : Wlc) : (s.setWlc x).base = s.base := rfl
@[simp] theorem State.setWce_base (x : Wce) : (s.setWce x).base = s.base := rfl
@[simp] theorem State.setLt_base (x : Trip) : (s.setLt x).base = s.base := rfl
@[simp] theorem State.setDsh_base (x : Vector DshSection 6) : (s.setDsh x).base = s.base := rfl
@[simp] theorem State.setCds_base (x : Cds) : (s.setCds x).base = s.base := rfl
@[simp] theorem State.setClp_base (x : Clp) : (s.setClp x).base = s.base := rfl
@[simp] theorem State.publishCds_base (c : Cds) : (s.publishCds c).base = s.base := rfl
@[simp] theorem State.putZone_base (i : Fin 8) (z : Zone) : (s.putZone i z).base = s.base := rfl
@[simp] theorem takeFrame_base (f : InFrame) (rest : List InFrame) : (takeFrame f rest s).base = s.base := rfl

@[simp] theorem putReply_base (place : Nat) (f : InFrame) (a : Answer) : (putReply place f a).base = a.state.base := rfl

@[simp] theorem State.ite_base (p : Prop) [Decidable p] (a b : State) :
    (if p then a else b).base = if p then a.base else b.base := apply_ite State.base p a b

/-- What a demand event leaves standing holds the timing and the store. -/
theorem base_of_standing {s t : State} (h : t.standing = s.standing) : t.base = s.base :=
  congrArg (fun x : Standing => ((x.now, x.power, x.pending), x.ssr)) h

@[simp] theorem latchIf_base (b : Bool) (src : ChangeSource) : (latchIf b src s).base = s.base :=
  base_of_standing (latchIf_standing s b src)

@[simp] theorem latch_base (src : ChangeSource) : (latch src s).base = s.base := latchIf_base s true src

end Updates

/-! #### The engine, the tally and the drive side -/

section Events

variable (s : State)

@[simp] theorem payloadTest_base (before : PayloadState) : (payloadTest before s).base = s.base := by
  simp [payloadTest]

@[simp] theorem failTare_base (reason : TareReason) : (failTare reason s).base = s.base :=
  base_of_standing (failTare_standing s reason)

@[simp] theorem endUnweighed_base (reason : EndReason) : (endUnweighed reason s).base = s.base := rfl

@[simp] theorem engineSample_base (x : Sample) : (engineSample x s).base = s.base := by
  rw [engineSample_frame]
  rfl

@[simp] theorem triggerArmed_base : (triggerArmed s).base = s.base := by
  rw [triggerArmed_frame]
  rfl

@[simp] theorem demandEvent_base : (demandEvent s).base = s.base := base_of_standing (demandEvent_standing s)

@[simp] theorem driveSupply_base (halt : Bool) : (driveSupply halt s).base = s.base := by
  have hstanding := driveSupply_standing halt s
  have htiming : (driveSupply halt s).timing = s.timing :=
    congrArg (fun x : Standing => (x.now, x.power, x.pending)) hstanding
  exact Prod.ext htiming (congrArg Standing.ssr hstanding)

theorem demandExpired_base (v : ValveSection) : (demandExpired v s).base = s.base := by simp [demandExpired]

theorem suspendExpired_base : (suspendExpired s).base = s.base := by simp [suspendExpired]

theorem supplySettleExpired_base : (supplySettleExpired s).base = s.base := by simp [supplySettleExpired]

theorem idleTimerExpired_base : (idleTimerExpired s).base = s.base := by simp [idleTimerExpired]

theorem drivePeriodTaken_base (currents : Vector Nat 6) : (drivePeriodTaken currents s).base = s.base := by
  simp [drivePeriodTaken, publishSections, coilsAll, judgeAll, shapeAll, lockUnlessLocked, lockSupply]

theorem driverTripped_base (v : ValveSection) : (driverTripped v s).base = s.base := by
  simp [driverTripped, lockUnlessLocked, lockSupply]

theorem scanned_base (raw : Vector Nat 9) : (scanned raw s).base = s.base := by
  rw [scanned_frame]
  rfl

theorem gapExpired_base : (gapExpired s).base = s.base := by
  rcases gapExpired_clp s with h | h <;> rw [h]
  rfl

theorem frameSent_base : (frameSent s).base = s.base := by
  rcases frameSent_eq s with h | ⟨f, rest, restart, -, h⟩ <;> rw [h]
  rfl

theorem unknownTaken_base : (unknownTaken s).base = s.base := by
  unfold unknownTaken
  split <;> simp

end Events

/-! #### The weigh link -/

section Link

variable (s : State)

@[simp] theorem linkLeft_base : (linkLeft s).base = s.base := by simp [linkLeft, engineLinkLeft]

@[simp] theorem enterFailed_base (cause : LinkCause) : (enterFailed cause s).base = s.base := by simp [enterFailed]

theorem lineChanged_base (level : Bool) : (lineChanged level s).base = s.base := by simp [lineChanged]

theorem debounceExpired_base : (debounceExpired s).base = s.base := by
  simp [debounceExpired, becameAbsent, enterAbsent, becamePresent, powerOn]

theorem powerOffTimeExpired_base : (powerOffTimeExpired s).base = s.base := by
  unfold powerOffTimeExpired
  split <;> simp

theorem linkSettleExpired_base : (linkSettleExpired s).base = s.base := by
  unfold linkSettleExpired
  split <;> simp [enterIdentifying]

@[simp] theorem compareSerial_base (serial : Nat) : (compareSerial serial s).base = s.base := by simp [compareSerial]

@[simp] theorem identityValid_base (h : HeadIdentity) : (identityValid h s).base = s.base := by
  simp [identityValid, enterRunning, makePoll]

@[simp] theorem identityFailed_base (began : Nat) : (identityFailed began s).base = s.base := by
  simp [identityFailed]

theorem identityReadEnded_base (answer : Option IdentityAnswer) : (identityReadEnded answer s).base = s.base := by
  unfold identityReadEnded
  split
  · split <;> simp
  · rfl

theorem identityRetried_base : (identityRetried s).base = s.base := by
  unfold identityRetried
  split <;> simp

theorem pollMade_base : (pollMade s).base = s.base := by
  unfold pollMade
  split <;> simp [makePoll]

@[simp] theorem finishTare_base (h : HeadIdentity) : (finishTare h s).base = s.base := by simp [finishTare, endTare]

@[simp] theorem tareSample_base (h : HeadIdentity) (o : PollOutcome) : (tareSample h o s).base = s.base := by
  unfold tareSample
  split
  · split <;> simp
  · rfl

@[simp] theorem pollCompleted_base (h : HeadIdentity) (number began : Nat) (o : PollOutcome) :
    (pollCompleted h number began o s).base = s.base := by
  rw [pollCompleted_eq]
  simp [recoveryDecision, enterRecovering, sampleTaken, publishSample]

theorem pollEnded_base (answer : Option SampleAnswer) : (pollEnded answer s).base = s.base := by
  unfold pollEnded
  split
  · split <;> simp
  · rfl

theorem linesRead_base (clock data : Bool) : (linesRead clock data s).base = s.base := by
  unfold linesRead
  split <;> simp [enterIdentifying, sendPulse]

theorem pulseEnded_base (data : Bool) : (pulseEnded data s).base = s.base := by
  unfold pulseEnded
  split <;> simp [enterIdentifying, sendPulse]

end Link

/-! #### The owners of the requests -/

section Owners

variable (s : State)

theorem statusOwner_base (page : Nat) : (statusOwner page s).state.base = s.base := by
  unfold statusOwner
  split <;> rfl

theorem readChangesOwner_base (u : Unit) : (readChangesOwner u s).state.base = s.base := by
  unfold readChangesOwner
  split <;> rfl

theorem driveOwner_base (r : DriveRequest) : (driveOwner r s).state.base = s.base := by
  have hheld : (driveHeld r s).base = s.base := rfl
  simp [driveOwner, driveTaken, hheld]

theorem sectionConfigOwner_base (r : SectionConfigRequest) : (sectionConfigOwner r s).state.base = s.base := by
  unfold sectionConfigOwner
  split <;> simp [sectionConfigured]

theorem profileOwner_base (r : ProfileRequest) : (profileOwner r s).state.base = s.base := by
  unfold profileOwner
  split
  · rfl
  · split <;> simp [profileWritten]

theorem releaseOwner_base (u : Unit) : (releaseOwner u s).state.base = s.base := by simp [releaseOwner, released]

theorem faultClearOwner_base (selector : Nat) : (faultClearOwner selector s).state.base = s.base := by
  simp [faultClearOwner, faultsCleared]

theorem armOwner_base (u : Unit) : (armOwner u s).state.base = s.base := by
  unfold armOwner
  split <;> simp [armGripped]

theorem disarmOwner_base (u : Unit) : (disarmOwner u s).state.base = s.base := by
  unfold disarmOwner
  split <;> simp

theorem captureOwner_base (r : CaptureRequest) : (captureOwner r s).state.base = s.base := by simp [captureOwner]

theorem linkResetOwner_base (u : Unit) : (linkResetOwner u s).state.base = s.base := by
  simp [linkResetOwner, resetLink]

theorem calibrateOwner_base (r : CalibrateRequest) : (calibrateOwner r s).state.base = s.base := by
  simp [calibrateOwner]

theorem tareOwner_base (u : Unit) : (tareOwner u s).state.base = s.base := by simp [tareOwner]

theorem zoneWriteOwner_base (r : ZoneWriteRequest) : (zoneWriteOwner r s).state.base = s.base := by
  unfold zoneWriteOwner
  split <;> simp

theorem zoneEnableOwner_base (r : ZoneEnableRequest) : (zoneEnableOwner r s).state.base = s.base := by
  unfold zoneEnableOwner
  split <;> simp

theorem zoneReadOwner_base (n : Nat) : (zoneReadOwner n s).state.base = s.base := by
  unfold zoneReadOwner
  split <;> rfl

theorem limiterOwner_base (r : LimiterRequest) : (limiterOwner r s).state.base = s.base := by
  simp [limiterOwner, limiterConfigured]

theorem ratedOwner_base (r : List (Option Nat)) : (ratedOwner r s).state.base = s.base := by
  simp [ratedOwner, ratedWritten]

theorem channelOwner_base (r : ChannelRequest) : (channelOwner r s).state.base = s.base := by
  unfold channelOwner
  split
  · rfl
  · split <;> simp [calibrated]

theorem geometryOwner_base (r : GeometryRequest) : (geometryOwner r s).state.base = s.base := by
  simp [geometryOwner, geometryConfigured]

theorem assortmentOwner_base (r : Option Nat) : (assortmentOwner r s).state.base = s.base := by
  unfold assortmentOwner
  split
  · rfl
  · split <;> simp

theorem readLiftsOwner_base (r : ReadLiftsRequest) : (readLiftsOwner r s).state.base = s.base := by
  simp [readLiftsOwner]

theorem readTotalsOwner_base (r : ReadTotalsRequest) : (readTotalsOwner r s).state.base = s.base := by
  unfold readTotalsOwner
  split
  · rfl
  · split
    · rfl
    · split <;> simp

theorem undoLastOwner_base (u : Unit) : (undoLastOwner u s).state.base = s.base := by
  unfold undoLastOwner
  split <;> simp

theorem correctOwner_base (r : CorrectRequest) : (correctOwner r s).state.base = s.base := by
  unfold correctOwner
  split
  · rfl
  · split <;> simp

theorem reassignOwner_base (r : ReassignRequest) : (reassignOwner r s).state.base = s.base := by
  unfold reassignOwner
  split
  · split <;> simp
  · rfl

theorem manualLiftOwner_base (r : ManualRequest) : (manualLiftOwner r s).state.base = s.base := by
  unfold manualLiftOwner
  split
  · rename_i a _ _
    have hfiled := base_of_standing (fileLift_standing s r.direction a r.mass manualFlags)
    split
    · rename_i s1 ans e
      simpa [e] using hfiled
    · rfl
  · rfl

theorem payloadLimitOwner_base (r : Option Nat) : (payloadLimitOwner r s).state.base = s.base := by
  unfold payloadLimitOwner
  split <;> simp

end Owners

end Sys2Proof.Machine
end

section
/-! ### The stored images, kept sound by every step -/

namespace Sys2Proof.Machine

open Sys2Proof

/-! #### The target and the number of the next write -/

theorem ne_otherSlot : ∀ i : Fin 2, i ≠ otherSlot i := by decide

theorem eq_otherSlot_of_ne : ∀ {i k : Fin 2}, i ≠ k → i = otherSlot k := by decide

section Next

variable {r : Ssr}

/-- The next write goes to the slot that is not current, slot 0 when none is (R195). -/
theorem Ssr.target_eq (r : Ssr) : r.target = if r.current = some 0 then 1 else 0 := by
  unfold Ssr.target
  split
  · next h => rw [h, if_pos rfl]
  · next i h hi => rw [hi, if_neg fun e => h (Option.some.inj e)]
  · next h => rw [h, if_neg nofun]

theorem Ssr.target_notMem_current (r : Ssr) : r.target ∉ r.current := by
  rw [r.target_eq, Option.mem_def]
  split
  · next h => simp [h]
  · assumption

theorem Ssr.currentImage_of_none (h : r.current = none) : r.currentImage = none := by
  rw [Ssr.currentImage, h, Option.bind_none]

theorem Ssr.currentImage_of_current {i : Fin 2} (h : r.current = some i) : r.currentImage = r.slots[i] := by
  rw [Ssr.currentImage, h, Option.bind_some]

/-- A new image carries the number after the current one's (R196). -/
theorem Ssr.nextSequence_of_image {m : StoredImage} (h : r.currentImage = some m) :
    r.nextSequence = (m.sequence + 1) % 65536 := by rw [Ssr.nextSequence, h]

/-- A new image carries number 1 where none is current (R196). -/
theorem Ssr.nextSequence_of_none (h : r.current = none) : r.nextSequence = 1 := by
  rw [Ssr.nextSequence, Ssr.currentImage_of_none h]

theorem Ssr.nextSequence_le (r : Ssr) : r.nextSequence ≤ 65535 := by
  unfold Ssr.nextSequence
  split
  · exact Nat.le_of_lt_succ (Nat.mod_lt _ (by decide))
  · decide

end Next

/-! #### Sound slots -/

/-- The image in a slot, if the slot is good, carries a 16-bit number. -/
abbrev NumberFits (slot : Option StoredImage) : Prop := ∀ m ∈ slot, m.sequence ≤ 65535

/-- The slots of a sound store: good ones carry 16-bit numbers, none is good when none is current, and the current one
is good, with the number after the other's (R195). -/
structure SlotsFit (slots : Vector (Option StoredImage) 2) (current : Option (Fin 2)) : Prop where
  number : ∀ i : Fin 2, NumberFits slots[i]
  bad_of_none : current = none → ∀ i : Fin 2, slots[i] = none
  good : ∀ i ∈ current, slots[i].isSome
  consecutive : ∀ i ∈ current, ∀ m ∈ slots[i], ∀ x ∈ slots[otherSlot i], m.sequence = (x.sequence + 1) % 65536

section Slots

variable {slots : Vector (Option StoredImage) 2} {current : Option (Fin 2)} {i k : Fin 2}

theorem ne_of_notMem_current (hk : k ∉ current) (hi : i ∈ current) : k ≠ i := fun e => hk (e ▸ hi)

theorem slots_set_self (x : Option StoredImage) : (slots.set k x)[k] = x := by simp

theorem slots_set_ne (h : k ≠ i) (x : Option StoredImage) : (slots.set k x)[i] = slots[i] := by
  simp [Fin.val_ne_of_ne h]

namespace SlotsFit

/-- The slots after the check of one that is not current is erased (R196). -/
theorem erase (h : SlotsFit slots current) (hk : k ∉ current) : SlotsFit (slots.set k none) current where
  number := forall_getElem_set (p := fun _ => NumberFits) h.number (fun _ hm => nomatch hm)
  bad_of_none hnone := forall_getElem_set (p := fun _ slot => slot = none) (h.bad_of_none hnone) rfl
  good i hi := by
    rw [slots_set_ne (ne_of_notMem_current hk hi)]
    exact h.good i hi
  consecutive i hi m _ x hx := by
    obtain rfl := eq_otherSlot_of_ne (ne_of_notMem_current hk hi)
    rw [slots_set_self] at hx
    cases hx

/-- The slots after an image is written to one that is not current (R197). -/
theorem write (h : SlotsFit slots current) {m : StoredImage} (hk : k ∉ current) (hle : m.sequence ≤ 65535)
    (hnext : ∀ i ∈ current, ∀ x ∈ slots[i], m.sequence = (x.sequence + 1) % 65536) :
    SlotsFit (slots.set k (some m)) (some k) where
  number := forall_getElem_set (p := fun _ => NumberFits) h.number fun x hx => by
    cases hx
    exact hle
  bad_of_none := nofun
  good i hi := by
    cases hi
    rw [slots_set_self]
    rfl
  consecutive i hi y hy x hx := by
    cases hi
    rw [slots_set_self] at hy
    rw [slots_set_ne (ne_otherSlot k)] at hx
    cases hy
    cases hcurrent : current with
    | none =>
      rw [h.bad_of_none hcurrent] at hx
      cases hx
    | some i =>
      have hi : i = otherSlot k := eq_otherSlot_of_ne (ne_of_notMem_current hk hcurrent).symm
      exact hnext i hcurrent x (hi ▸ hx)

/-- A restart decides on the slot that is current already: of two good slots it is the later one (R195). -/
theorem currentSlot_eq (h : SlotsFit slots current) : currentSlot slots = current := by
  cases hcurrent : current with
  | none =>
    have hbad := h.bad_of_none hcurrent
    have h0 : slots[0] = none := hbad 0
    have h1 : slots[1] = none := hbad 1
    simp [currentSlot, h0, h1]
  | some i =>
    obtain ⟨m, hm⟩ := Option.isSome_iff_exists.1 (h.good i hcurrent)
    have hlater := h.consecutive i hcurrent m hm
    have hle := h.number i m hm
    match i with
    | 0 =>
      have h0 : slots[0] = some m := hm
      cases h1 : slots[1] with
      | none => simp [currentSlot, h0, h1]
      | some x =>
        have hx := hlater x h1
        have hearlier : ¬x.sequence = (m.sequence + 1) % 65536 := by omega
        simp [currentSlot, h0, h1, hearlier]
    | 1 =>
      have h1 : slots[1] = some m := hm
      cases h0 : slots[0] with
      | none => simp [currentSlot, h0, h1]
      | some x => simp [currentSlot, h0, h1, ← hlater x h0]

end SlotsFit

end Slots

/-! #### A sound store -/

section Store

variable {r : Ssr}

/-- A store is sound when its slots are, and a write in progress goes to a bad slot that is not current, with the number
after the current image's (R195, R196). -/
theorem Ssr.sound_iff :
    r.Sound ↔ SlotsFit r.slots r.current ∧ (r.write.isSome ↔ r.store = .writing) ∧
      ∀ w ∈ r.write, w.target = r.target ∧ w.sequence = r.nextSequence ∧ r.slots[w.target] = none := by
  constructor
  · rintro ⟨hwriting, hwrite, hnumber, hbad, hcurrent⟩
    exact ⟨⟨hnumber, hbad, fun i hi => (hcurrent i hi).1, fun i hi => (hcurrent i hi).2⟩, hwriting, hwrite⟩
  · rintro ⟨⟨hnumber, hbad, hgood, hconsecutive⟩, hwriting, hwrite⟩
    exact ⟨hwriting, hwrite, hnumber, hbad, fun i hi => ⟨hgood i hi, hconsecutive i hi⟩⟩

theorem Ssr.Sound.slotsFit (h : r.Sound) : SlotsFit r.slots r.current := (Ssr.sound_iff.1 h).1

/-- With no write in progress the slots decide. -/
theorem SlotsFit.sound (hslots : SlotsFit r.slots r.current) (hwrite : r.write = none) (hstore : r.store ≠ .writing) :
    r.Sound := by
  refine Ssr.sound_iff.2 ⟨hslots, ?_, ?_⟩ <;> simp [hwrite, hstore]

/-- The number of the next write is the one after the current image's. -/
theorem Ssr.nextSequence_of_current {i : Fin 2} {m : StoredImage} (hi : i ∈ r.current) (hm : m ∈ r.slots[i]) :
    r.nextSequence = (m.sequence + 1) % 65536 :=
  Ssr.nextSequence_of_image ((Ssr.currentImage_of_current hi).trans hm)

theorem storeStarted_sound {s : State} (h : s.ssr.Sound) : (storeStarted s).ssr.Sound := by
  have htarget := s.ssr.target_notMem_current
  have himage : (storeStarted s).ssr.currentImage = s.ssr.currentImage := by
    cases hi : s.ssr.current with
    | none => rw [Ssr.currentImage_of_none hi, Ssr.currentImage_of_none (r := (storeStarted s).ssr) hi]
    | some i =>
      rw [Ssr.currentImage_of_current hi, Ssr.currentImage_of_current (r := (storeStarted s).ssr) hi]
      exact slots_set_ne (ne_of_notMem_current htarget hi) none
  refine Ssr.sound_iff.2 ⟨h.slotsFit.erase htarget, iff_of_true rfl rfl, fun w hw => ?_⟩
  cases hw
  refine ⟨rfl, ?_, slots_set_self none⟩
  unfold Ssr.nextSequence
  rw [himage]

/-- A sound write that ends well makes its slot the current one; one that fails leaves it bad (R197). -/
theorem storeCompleted_sound (checkMatches : Bool) {s : State} (h : s.ssr.Sound) :
    (storeCompleted checkMatches s).ssr.Sound := by
  obtain ⟨hslots, -, hwrite⟩ := Ssr.sound_iff.1 h
  unfold storeCompleted
  split
  · rename_i w hw
    obtain ⟨htarget, hsequence, -⟩ := hwrite w hw
    split
    · split
      · refine SlotsFit.sound ?_ rfl nofun
        exact hslots.write (m := { image := w.image, sequence := w.sequence })
          (htarget ▸ s.ssr.target_notMem_current) (hsequence ▸ s.ssr.nextSequence_le)
          fun i hi x hx => hsequence.trans (Ssr.nextSequence_of_current hi hx)
      · exact SlotsFit.sound hslots rfl nofun
    · exact h
  · exact h

theorem mainLost_sound {s : State} (h : s.ssr.Sound) : (mainLost s).ssr.Sound := by
  refine SlotsFit.sound h.slotsFit rfl ?_
  simp only [mainLost, State.setSsr_ssr]
  split
  · nofun
  · assumption

/-- A restart event restarts the part, with the supplies as they then are, or has no effect (R198, log entry 2). -/
theorem restartTaken_cases (s : State) :
    restartTaken s = s ∨ ∃ asked p, restartTaken s = restarted asked (s.setPower p) := by
  unfold restartTaken
  split
  · split
    · split
      · exact .inr ⟨_, s.power, rfl⟩
      · exact .inl rfl
    · exact .inl rfl
  · exact .inr ⟨_, _, rfl⟩

/-- A restart finds the current slot again, and no write goes on (R195). -/
theorem restarted_sound (asked : Option RestartKind) {s : State} (h : s.ssr.Sound) : (restarted asked s).ssr.Sound := by
  simp only [restarted, latchIf_ssr]
  refine SlotsFit.sound ?_ rfl nofun
  have hslots := h.slotsFit
  rw [← hslots.currentSlot_eq] at hslots
  exact hslots

theorem restartTaken_sound {s : State} (h : s.ssr.Sound) : (restartTaken s).ssr.Sound := by
  rcases restartTaken_cases s with e | ⟨asked, p, e⟩ <;> rw [e]
  · exact h
  · exact restarted_sound asked (s := s.setPower p) h

end Store

end Sys2Proof.Machine
end

section
/-! ### Every command: the events of the supplied part, the detect line, and the supplies -/

namespace Sys2Proof.Machine

open Sys2Proof

/-- An event that leads from `s` to `t` keeps the clock, the supplies, the queue and the soundness of the store. -/
structure State.KeepsBase (s t : State) : Prop where
  timing : t.timing = s.timing
  store : s.ssr.Sound → t.ssr.Sound

theorem State.KeepsBase.of_base {s t : State} (h : t.base = s.base) : s.KeepsBase t := by
  obtain ⟨htiming, hssr⟩ := Prod.ext_iff.1 h
  have hssr : t.ssr = s.ssr := hssr
  exact ⟨htiming, fun hs => hssr ▸ hs⟩

/-- A request keeps of the base what its owner keeps. -/
theorem takeRequest_keepsBase {α : Type} {kind : Byte} {reader : Reader α} {owner : α → State → Answer}
    (howner : ∀ (s : State) x, s.KeepsBase (owner x s).state) (s : State) :
    s.KeepsBase (takeRequest kind reader owner s) := by
  have hanswer (f : InFrame) (s : State) : s.KeepsBase (answerFrame reader owner f s).state := by
    unfold answerFrame
    split
    · exact howner _ _
    · exact .of_base rfl
  unfold takeRequest
  split
  · split
    · obtain ⟨htiming, hstore⟩ := hanswer _ _
      exact ⟨htiming, hstore⟩
    · exact .of_base rfl
  · exact .of_base rfl

/-- A Store settings starts a sound write or changes nothing (R196). -/
theorem storeOwner_keepsBase (s : State) (u : Unit) : s.KeepsBase (storeOwner u s).state := by
  unfold storeOwner
  split
  case h_1 | h_2 => exact .of_base rfl
  all_goals exact ⟨rfl, storeStarted_sound⟩

theorem storeCompleted_keepsBase (checkMatches : Bool) (s : State) : s.KeepsBase (storeCompleted checkMatches s) := by
  refine ⟨?_, storeCompleted_sound checkMatches⟩
  unfold storeCompleted
  split
  · split
    · split <;> rfl
    · rfl
  · rfl

/-- What a command is: an event of the supplied part that keeps the base, a change of the detect line, or one of the
four commands of the supplies. -/
inductive CommandKind : Instr → Prop
  | event {c : Instr} (dt : Nat) (act : State → State) :
      (∀ s, exec c s = onSupply dt s act) → (∀ s : State, s.KeepsBase (act s)) → CommandKind c
  | line (dt : Nat) (level : Bool) : CommandKind (.detectLineChange dt level)
  | restart (dt : Nat) : CommandKind (.restart dt)
  | mainLoss (dt : Nat) : CommandKind (.mainSupplyLoss dt)
  | standbyLoss (dt : Nat) : CommandKind (.standbySupplyLoss dt)
  | standbyReturn (dt : Nat) : CommandKind (.standbySupplyReturn dt)

section Kinds

variable {c : Instr} {dt : Nat}

/-- An event that leaves the base alone. -/
theorem CommandKind.leaves {act : State → State} (hact : ∀ s, (act s).base = s.base)
    (hexec : ∀ s, exec c s = onSupply dt s act) : CommandKind c :=
  .event dt act hexec fun s => .of_base (hact s)

/-- A request whose owner leaves the base alone. -/
theorem CommandKind.asks {α : Type} {kind : Byte} {reader : Reader α} {owner : α → State → Answer}
    (howner : ∀ s x, (owner x s).state.base = s.base) (hexec : ∀ s, exec c s = execRequest dt kind reader owner s) :
    CommandKind c :=
  .event dt _ hexec (takeRequest_keepsBase fun s x => .of_base (howner s x))

end Kinds

theorem commandKind (c : Instr) : CommandKind c := by
  cases c with
  | detectLineChange dt level => exact .line dt level
  | restart dt => exact .restart dt
  | mainSupplyLoss dt => exact .mainLoss dt
  | standbySupplyLoss dt => exact .standbyLoss dt
  | standbySupplyReturn dt => exact .standbyReturn dt
  | storeSettings dt => exact .event dt _ (fun _ => rfl) (takeRequest_keepsBase storeOwner_keepsBase)
  | storeWriteCompletion dt => exact .event dt _ (fun _ => rfl) (storeCompleted_keepsBase _)
  | scan => exact .leaves (scanned_base · _) fun _ => rfl
  | debounceExpiry => exact .leaves debounceExpired_base fun _ => rfl
  | powerOffTimeExpiry => exact .leaves powerOffTimeExpired_base fun _ => rfl
  | linkSettleExpiry => exact .leaves linkSettleExpired_base fun _ => rfl
  | identityReadEnd => exact .leaves (identityReadEnded_base · _) fun _ => rfl
  | identityRetry => exact .leaves identityRetried_base fun _ => rfl
  | poll => exact .leaves pollMade_base fun _ => rfl
  | pollCompletion => exact .leaves (pollEnded_base · _) fun _ => rfl
  | recoveryLineRead => exact .leaves (linesRead_base · _ _) fun _ => rfl
  | clockPulseEnd => exact .leaves (pulseEnded_base · _) fun _ => rfl
  | demandExpiry => exact .leaves (demandExpired_base · _) fun _ => rfl
  | suspendTimerExpiry => exact .leaves suspendExpired_base fun _ => rfl
  | drivePeriod => exact .leaves (drivePeriodTaken_base · _) fun _ => rfl
  | driverTrip => exact .leaves (driverTripped_base · _) fun _ => rfl
  | supplySettleExpiry => exact .leaves supplySettleExpired_base fun _ => rfl
  | idleTimerExpiry => exact .leaves idleTimerExpired_base fun _ => rfl
  | byteReceived => exact .leaves (act := byteTaken _ _) (fun _ => rfl) fun _ => rfl
  | gapExpiry => exact .leaves gapExpired_base fun _ => rfl
  | frameSent => exact .leaves frameSent_base fun _ => rfl
  | unknownKind => exact .leaves unknownTaken_base fun _ => rfl
  | drive => exact .asks driveOwner_base fun _ => rfl
  | status => exact .asks statusOwner_base fun _ => rfl
  | readChanges => exact .asks readChangesOwner_base fun _ => rfl
  | clearChanges => exact .asks (owner := clearChangesOwner) (fun _ _ => rfl) fun _ => rfl
  | changeConfig => exact .asks (owner := changeConfigOwner) (fun _ _ => rfl) fun _ => rfl
  | sectionConfig => exact .asks sectionConfigOwner_base fun _ => rfl
  | profileWrite => exact .asks profileOwner_base fun _ => rfl
  | release => exact .asks releaseOwner_base fun _ => rfl
  | faultClear => exact .asks faultClearOwner_base fun _ => rfl
  | arm => exact .asks armOwner_base fun _ => rfl
  | disarm => exact .asks disarmOwner_base fun _ => rfl
  | captureConfig => exact .asks captureOwner_base fun _ => rfl
  | assortment => exact .asks assortmentOwner_base fun _ => rfl
  | readLifts => exact .asks readLiftsOwner_base fun _ => rfl
  | readTotals => exact .asks readTotalsOwner_base fun _ => rfl
  | undoLast => exact .asks undoLastOwner_base fun _ => rfl
  | correct => exact .asks correctOwner_base fun _ => rfl
  | reassign => exact .asks reassignOwner_base fun _ => rfl
  | manualLift => exact .asks manualLiftOwner_base fun _ => rfl
  | tripClose => exact .asks (owner := tripCloseOwner) (fun _ _ => rfl) fun _ => rfl
  | payloadLimit => exact .asks payloadLimitOwner_base fun _ => rfl
  | zoneWrite => exact .asks zoneWriteOwner_base fun _ => rfl
  | zoneEnable => exact .asks zoneEnableOwner_base fun _ => rfl
  | zoneRead => exact .asks zoneReadOwner_base fun _ => rfl
  | limiterConfig => exact .asks limiterOwner_base fun _ => rfl
  | ratedWrite => exact .asks ratedOwner_base fun _ => rfl
  | linkStatus => exact .asks (owner := linkStatusOwner) (fun _ _ => rfl) fun _ => rfl
  | linkReset => exact .asks linkResetOwner_base fun _ => rfl
  | calibrate => exact .asks calibrateOwner_base fun _ => rfl
  | tare => exact .asks tareOwner_base fun _ => rfl
  | channelCalibration => exact .asks channelOwner_base fun _ => rfl
  | geometryConfig => exact .asks geometryOwner_base fun _ => rfl
  | restartRequest => exact .asks (owner := restartOwner) (fun _ _ => rfl) fun _ => rfl

/-! #### The stored images -/

theorem exec_ssrSound {c : Instr} {s t : State} (h : s.ssr.Sound) (e : exec c s = .next t) : t.ssr.Sound := by
  cases commandKind c with
  | event dt act hexec hact =>
    rw [hexec] at e
    exact onSupply_keeps (P := fun s => s.ssr.Sound) (fun _ _ h => h) (fun s => (hact s).store) h e
  | line dt level =>
    rw [← Host.Outcome.next.inj e]
    split
    · exact (State.KeepsBase.of_base (lineChanged_base (s.tick dt) level)).store h
    · exact h
  | restart dt => exact Host.Outcome.next.inj e ▸ restartTaken_sound (s := s.tick dt) h
  | mainLoss dt => exact Host.Outcome.next.inj e ▸ mainLost_sound (s := s.tick dt) h
  | standbyLoss => exact Host.Outcome.next.inj e ▸ h
  | standbyReturn => exact Host.Outcome.next.inj e ▸ h

/-- Settles O12: a write starts beside the current slot, its end makes its slot the current one or leaves it bad, a loss
of the main supply abandons it, and a restart finds the current slot again. -/
theorem stepKeepsStore : Obligations.StepKeepsStore := fun _ _ h hstep =>
  step_keeps (P := fun s => s.ssr.Sound) (fun _ _ h => h) (fun _ _ _ => exec_ssrSound) h hstep

/-! #### Every command completes -/

section Completes

variable (dt : Nat) (s : State)

/-- An event of the supplied part takes place after `dt` ms, and without the main supply only they pass (R194). -/
theorem onSupply_completes {act : State → State} (hact : ∀ s : State, s.KeepsBase (act s)) :
    ∃ t, onSupply dt s act = .next t ∧ t.timing = (s.tick dt).timing ∧ (s.power.main = false → t = s.tick dt) := by
  cases hmain : s.power.main
  · exact ⟨_, onSupply_off dt s act hmain, rfl, fun _ => rfl⟩
  · exact ⟨_, onSupply_main dt s act hmain, (hact _).timing, nofun⟩

theorem detectLineChange_completes (level : Bool) :
    ∃ t, exec (.detectLineChange dt level) s = .next t ∧ t.timing = (s.tick dt).timing ∧
      (s.power.main = false → t = (s.tick dt).setWlc { s.wlc with detectLine := level }) := by
  refine ⟨_, rfl, ?_, fun hmain => if_neg (by simp [hmain])⟩
  split
  · exact congrArg Prod.fst (lineChanged_base (s.tick dt) level)
  · rfl

/-- A restart takes no time and leaves the queue as it is (log entry 1). -/
theorem restartTaken_now_pending : (restartTaken s).now = s.now ∧ (restartTaken s).pending = s.pending := by
  rcases restartTaken_cases s with e | ⟨asked, p, e⟩ <;> rw [e]
  · exact ⟨rfl, rfl⟩
  · simp [restarted, restartBlocks]

end Completes

/-- Settles O2, by what a command is. -/
theorem everyCommandCompletes : Obligations.EveryCommandCompletes := by
  intro c s
  by_cases hline : ∃ dt level, c = .detectLineChange dt level
  · obtain ⟨dt, level, rfl⟩ := hline
    obtain ⟨t, hexec, htiming, hoff⟩ := detectLineChange_completes dt s level
    obtain ⟨hnow, hpower, hpending⟩ := State.timing_eq_iff.1 htiming
    refine ⟨t, hexec, hpending, hnow ▸ Nat.le_add_right _ _, fun _ =>
      ⟨hpower, fun _ h => absurd rfl (h dt level), fun dt' level' hmain hc => ?_⟩⟩
    cases hc
    rw [hnow]
    exact hoff hmain
  · cases commandKind c with
    | line dt level => exact absurd ⟨dt, level, rfl⟩ hline
    | event dt act hexec hact =>
      obtain ⟨t, hnext, htiming, hoff⟩ := onSupply_completes dt s hact
      obtain ⟨hnow, hpower, hpending⟩ := State.timing_eq_iff.1 htiming
      refine ⟨t, (hexec s).trans hnext, hpending, hnow ▸ Nat.le_add_right _ _, fun _ =>
        ⟨hpower, fun hmain _ => ?_, fun dt level _ hc => absurd ⟨dt, level, hc⟩ hline⟩⟩
      rw [hnow]
      exact hoff hmain
    | restart dt =>
      obtain ⟨hnow, hpending⟩ := restartTaken_now_pending (s.tick dt)
      exact ⟨_, rfl, hpending, hnow ▸ Nat.le_add_right _ _, fun h => absurd (h dt) (by simp)⟩
    | mainLoss dt => exact ⟨_, rfl, rfl, Nat.le_add_right _ _, fun h => absurd (h dt) (by simp)⟩
    | standbyLoss dt => exact ⟨_, rfl, rfl, Nat.le_add_right _ _, fun h => absurd (h dt) (by simp)⟩
    | standbyReturn dt => exact ⟨_, rfl, rfl, Nat.le_add_right _ _, fun h => absurd (h dt) (by simp)⟩

end Sys2Proof.Machine
end

section
/-! ### Store settings, the end of its write, the Restart request, and the supplies -/

namespace Sys2Proof.Machine

open Sys2Proof

@[simp] theorem takenState_ssr (dt : Nat) (f : InFrame) (rest : List InFrame) (s : State) :
    (takenState dt f rest s).ssr = s.ssr := rfl

/-! #### Store settings -/

/-- While a write runs a Store settings changes nothing, and says which write it is (R196). -/
theorem storeOwner_busy {s : State} {w : StoreWrite} (hstore : s.ssr.store = .writing) (hw : s.ssr.write = some w) :
    storeOwner () s = { state := s, result := .busy, body := .store .writing w.target w.sequence } := by
  rw [storeOwner, hstore, hw]

/-- With no write running a Store settings starts one (R196). -/
theorem storeOwner_idle {s : State} (hstore : s.ssr.store ≠ .writing) :
    storeOwner () s =
      { state := storeStarted s, result := .accepted, body := .store .writing s.ssr.target s.ssr.nextSequence } := by
  unfold storeOwner
  split
  case h_1 hwriting _ | h_2 hwriting _ => exact absurd hwriting hstore
  all_goals rfl

section Asked

variable {s : State} {dt : Nat} {tag : Byte} {rest : List InFrame}

theorem exec_storeSettings_asked (h : s.asked 0x60#8 tag [] rest) :
    exec (.storeSettings dt) s =
      .next
        (putReply s.clp.outbound.length { kind := 0x60#8, tag := tag, fields := [] }
          (storeOwner () (takenState dt { kind := 0x60#8, tag := tag, fields := [] } rest s))) :=
  asked_decoded storeOwner h rfl

theorem exec_storeSettings_busy {w : StoreWrite} (h : s.asked 0x60#8 tag [] rest) (hstore : s.ssr.store = .writing)
    (hw : s.ssr.write = some w) :
    exec (.storeSettings dt) s =
      .next (s.replied dt rest 0x60#8 tag .busy (.store .writing w.target w.sequence)) := by
  rw [exec_storeSettings_asked h, storeOwner_busy (s := takenState _ _ _ s) hstore hw, putReply_same]

theorem exec_storeSettings_idle (h : s.asked 0x60#8 tag [] rest) (hstore : s.ssr.store ≠ .writing) :
    exec (.storeSettings dt) s =
      .next
        { s with
          now := s.now + dt
          ssr :=
            { s.ssr with
              slots := s.ssr.slots.set s.ssr.target none
              store := .writing
              write :=
                some
                  { image := s.settings
                    sequence := s.ssr.nextSequence
                    target := s.ssr.target
                    due := s.now + dt + 40 } }
          clp := s.clp.answered rest 0x60#8 tag .accepted (.store .writing s.ssr.target s.ssr.nextSequence) } := by
  rw [exec_storeSettings_asked h, storeOwner_idle (s := takenState _ _ _ s) hstore]
  simp [putReply, takenState, takeFrame, storeStarted, State.setClp, State.setSsr, State.tick, State.setNow,
    Clp.answered, storeTime]

/-- A Restart request is answered Done and made pending (R190, R199). -/
theorem exec_restartRequest_asked {fields : List Byte} {kind : RestartKind} (h : s.asked 0x61#8 tag fields rest)
    (hkind : decodeAll readRestart fields = some kind) :
    exec (.restartRequest dt) s =
      .next
        { s with
          now := s.now + dt
          clp :=
            { s.clp.answered rest 0x61#8 tag .done .none with
              restart := some { kind := kind, replySent := false } } } := by
  refine (asked_decoded restartOwner h hkind).trans (congrArg _ ?_)
  simp [putReply, restartOwner, answerDone, takenState, takeFrame, State.setClp, State.tick, State.setNow, Clp.answered]

end Asked

/-- The restart kinds by their codes (R199). -/
theorem decodeAll_readRestart (kind : RestartKind) :
    decodeAll readRestart [if kind = .warm then 0#8 else 1#8] = some kind := by
  cases kind <;> rfl

/-! #### The end of the write -/

/-- At its instant the write ends: good and current when the check read back matches, else failed (R197). -/
theorem storeCompleted_of_due {s : State} {w : StoreWrite} (hw : s.ssr.write = some w) (hdue : w.due ≤ s.now)
    (checkMatches : Bool) :
    storeCompleted checkMatches s =
      s.setSsr
        (if checkMatches then
          { s.ssr with
            slots := s.ssr.slots.set w.target (some { image := w.image, sequence := w.sequence })
            current := some w.target
            store := .done
            write := none }
        else { s.ssr with store := .failed, write := none }) := by
  rw [storeCompleted, hw]
  cases checkMatches <;> exact if_pos hdue

/-- Before its instant, or with no write running, nothing ends (log entry 2). -/
theorem storeCompleted_of_early {s : State} (h : ∀ w : StoreWrite, s.ssr.write = some w → s.now < w.due)
    (checkMatches : Bool) : storeCompleted checkMatches s = s := by
  unfold storeCompleted
  split
  · next w hw => exact if_neg (Nat.not_le.2 (h w hw))
  · rfl

/-- Settles O51: the requests by what their owners do, the end of the write by its instant, and the supplies' commands
by their definitions. -/
theorem storeAndSuppliesAct : Obligations.StoreAndSuppliesAct := by
  intro s dt tag rest
  have hexec (checkMatches : Bool) (hmain : s.power.main = true) :
      exec (.storeWriteCompletion dt checkMatches) s = .next (storeCompleted checkMatches (s.tick dt)) :=
    onSupply_main dt s _ hmain
  refine ⟨fun h => ⟨fun w hstore hw => exec_storeSettings_busy h hstore hw, fun hstore => ?_⟩,
    fun checkMatches hmain => ⟨fun w hw hdue => ?_, fun hearly => ?_⟩, fun kind code hcode h => ?_, rfl, rfl, rfl⟩
  · exact ⟨s.ssr.target, s.ssr.nextSequence, s.ssr.target_eq, Ssr.nextSequence_of_none,
      fun i m hi hm => Ssr.nextSequence_of_current hi hm, exec_storeSettings_idle h hstore⟩
  · exact (hexec checkMatches hmain).trans (congrArg _ (storeCompleted_of_due (s := s.tick dt) hw hdue _))
  · exact (hexec checkMatches hmain).trans (congrArg _ (storeCompleted_of_early (s := s.tick dt) hearly _))
  · subst hcode
    exact exec_restartRequest_asked h (decodeAll_readRestart kind)

end Sys2Proof.Machine
end

section
/-! ### One step of the queue, and the four roundings -/

namespace Sys2Proof.Machine

open Sys2Proof

/-! #### The step -/

/-- With a command at the front of the queue the step is that command, on the queue's rest. -/
theorem step_of_cons {c : Instr} {rest : List Instr} {s : State} (h : s.pending = c :: rest) :
    step s = exec c (s.setPending rest) := by
  rw [step, h]

/-- With no command waiting the block idles (log entry 19). -/
theorem step_of_nil {s : State} (h : s.pending = []) : step s = .next s := by
  rw [step, h]

/-- Settles O1, by the two shapes of the queue. -/
theorem stepRunsFrontCommand : Obligations.StepRunsFrontCommand :=
  ⟨fun _ _ _ h => step_of_cons h, fun _ h => step_of_nil h⟩

/-! #### The roundings -/

section Roundings

variable {n d : Int}

/-- The floor is the neighbour below: the multiple of `d` at or below `n` and less than `d` from it. -/
theorem floorDiv_bounds (n : Int) (hd : 0 < d) : floorDiv n d * d ≤ n ∧ n < floorDiv n d * d + d :=
  ⟨Int.ediv_mul_le n hd.ne', by simpa [floorDiv, add_mul] using Int.lt_ediv_add_one_mul_self n hd⟩

theorem floorDiv_nonneg (hn : 0 ≤ n) (hd : 0 < d) : 0 ≤ floorDiv n d := Int.ediv_nonneg hn hd.le

/-- The half up lies less than half of `d` below `n` and at most half of `d` above it: it is the floor of n / d + 1/2. -/
theorem roundHalfUp_bounds (n : Int) (hd : 0 < d) :
    2 * n < 2 * (roundHalfUp n d * d) + d ∧ 2 * (roundHalfUp n d * d) ≤ 2 * n + d := by
  obtain ⟨hle, hlt⟩ := floorDiv_bounds (2 * n + d) (show 0 < 2 * d by omega)
  have hmul : floorDiv (2 * n + d) (2 * d) * (2 * d) = 2 * (roundHalfUp n d * d) := mul_left_comm _ _ _
  omega

/-- The half up is a nearest multiple, and of two it is the upper one. -/
theorem roundHalfUp_nearest (n : Int) (hd : 0 < d) :
    2 * |roundHalfUp n d * d - n| ≤ d ∧ (2 * |roundHalfUp n d * d - n| = d → n < roundHalfUp n d * d) := by
  obtain ⟨hlt, hle⟩ := roundHalfUp_bounds n hd
  rcases abs_cases (roundHalfUp n d * d - n) with ⟨habs, hsign⟩ | ⟨habs, hsign⟩ <;> omega

/-! The half away from zero and the truncation treat `n` and `-n` alike: each is the half up, or the floor, of the
magnitude, with the sign of `n`. -/

theorem roundHalfAway_of_nonneg (hn : 0 ≤ n) (d : Int) : roundHalfAway n d = roundHalfUp n d := if_neg (not_lt.2 hn)

theorem roundHalfAway_of_neg (hn : n < 0) (d : Int) : roundHalfAway n d = -roundHalfUp (-n) d := if_pos hn

theorem truncDiv_of_nonneg (hn : 0 ≤ n) (d : Int) : truncDiv n d = floorDiv n d := Int.tdiv_eq_ediv_of_nonneg hn

theorem truncDiv_of_neg (hn : n < 0) (d : Int) : truncDiv n d = -floorDiv (-n) d := by
  rw [← truncDiv_of_nonneg (by omega) d, truncDiv, truncDiv, Int.neg_tdiv, neg_neg]

/-- The half away from zero is a nearest multiple, and of two it is the one of the greater magnitude. -/
theorem roundHalfAway_nearest (n : Int) (hd : 0 < d) :
    2 * |roundHalfAway n d * d - n| ≤ d ∧ (2 * |roundHalfAway n d * d - n| = d → |n| < |roundHalfAway n d * d|) := by
  rcases lt_or_ge n 0 with hn | hn
  · obtain ⟨hnear, htie⟩ := roundHalfUp_nearest (-n) hd
    have hdist : |roundHalfAway n d * d - n| = |roundHalfUp (-n) d * d - -n| := by
      rw [roundHalfAway_of_neg hn, neg_mul, ← abs_neg]
      congr 1
      ring
    rw [hdist, roundHalfAway_of_neg hn, neg_mul, abs_neg, abs_of_neg hn]
    exact ⟨hnear, fun h => (htie h).trans_le (le_abs_self _)⟩
  · obtain ⟨hnear, htie⟩ := roundHalfUp_nearest n hd
    rw [roundHalfAway_of_nonneg hn, abs_of_nonneg hn]
    exact ⟨hnear, fun h => (htie h).trans_le (le_abs_self _)⟩

/-- The truncation is the neighbour toward zero: no greater in magnitude than `n`, less than `d` from it, of its sign. -/
theorem truncDiv_towardZero (n : Int) (hd : 0 < d) :
    |truncDiv n d * d| ≤ |n| ∧ |n| < |truncDiv n d * d| + d ∧ 0 ≤ truncDiv n d * n := by
  rcases lt_or_ge n 0 with hn | hn
  · have hq := floorDiv_nonneg (show 0 ≤ -n by omega) hd
    obtain ⟨hle, hlt⟩ := floorDiv_bounds (-n) hd
    rw [truncDiv_of_neg hn, neg_mul, abs_neg, abs_of_nonneg (mul_nonneg hq hd.le), abs_of_neg hn]
    exact ⟨hle, hlt, by rw [neg_mul_comm]; exact mul_nonneg hq (by omega)⟩
  · have hq := floorDiv_nonneg hn hd
    obtain ⟨hle, hlt⟩ := floorDiv_bounds n hd
    rw [truncDiv_of_nonneg hn, abs_of_nonneg (mul_nonneg hq hd.le), abs_of_nonneg hn]
    exact ⟨hle, hlt, mul_nonneg hq hn⟩

end Roundings

/-- Settles O16: the floor by Euclid's division, the half up as a floor, and the other two by the sign of the dividend. -/
theorem roundingsAreNearest : Obligations.RoundingsAreNearest := fun n _ hd =>
  ⟨roundHalfAway_nearest n hd, roundHalfUp_nearest n hd, floorDiv_bounds n hd, truncDiv_towardZero n hd⟩

end Sys2Proof.Machine
end
